-- ==== Sys2Proof/Word.lean ====
section
/-! DEFINITION. The word types of the VRAW10 block (spec 00_scope.md R5, R6, R7: every value is an unsigned integer). -/

namespace Sys2Proof

/-- One byte of host memory, of the output stream or of a packed block. -/
abbrev Byte := BitVec 8

/-- One register of the block, or one command word (REG_W = 64, 00_scope.md R5). -/
abbrev Word := BitVec 64

/-- One 10-bit component of the packed codec (42_codec.md R150). -/
abbrev Sample := BitVec 10

end Sys2Proof
end

