-- ==== Sys2Proof/Config.lean ====
section
/-! DEFINITION. What an implementation fixes (00_scope.md R5) and the free values the spec leaves open
(93_implementation_defined.md). A constant without a body is a free value: nothing in Lean can evaluate it. -/

namespace Sys2Proof

namespace Config

/-- ID_VALUE (00_scope.md R5, 10_state.md R22). -/
def idValue : Word := 0x5652415731300007#64

/-- MAX_DIM, the largest width or height (00_scope.md R5). -/
def maxDim : Nat := 65535

/-- MAX_ALIGN, the largest alignment value (00_scope.md R5). -/
def maxAlign : Nat := 65535

/-- MARKER_LEN, the length of the per-frame marker (00_scope.md R5, 41_serializer.md R132). -/
def markerLen : Nat := 6

/-- The size in bytes of the register window (20_memory.md R60). -/
def windowBytes : Nat := 0x448

/-- What a byte of host memory reads as that nothing has written.
DESIGN CHOICE, unsafe (notes/assumptions/1.md): the spec gives host memory no initial contents. -/
def unlistedByte : Byte := 0#8

/-- The two values of the OPEN parameter U8_ROUND_OVERFLOW (42_codec.md R154). -/
inductive RoundOverflow where
  | wrap
  | saturate
  deriving DecidableEq, Repr, Inhabited

/-- A range of host-memory addresses, `start` to `start + len - 1`. -/
structure Region where
  start : Nat
  len : Nat
  deriving DecidableEq, Repr, Inhabited

/-- The OPEN parameters of 00_scope.md R5, which "a model takes ... as an argument", and the platform's
regions of host memory whose reads have side effects (20_memory.md R67, duty H6 of R240). -/
structure Params where
  /-- ADDR_W: width in bits of a memory-port byte address. -/
  addrW : Nat
  /-- REG_BASE: base address of the register window on the host bus. -/
  regBase : Nat
  /-- FRAME_MARKER: the MARKER_LEN = 6 marker bytes. -/
  frameMarker : Vector Byte 6
  /-- U8_ROUND_OVERFLOW. -/
  u8RoundOverflow : RoundOverflow
  /-- The platform's device regions, whose reads have side effects. -/
  devices : List Region
  deriving DecidableEq, Repr, Inhabited

/-- The parameters of the machine that `State.reset` is: OPEN, so a free value. DESIGN CHOICE, safe (notes/assumptions/2.md). -/
opaque params : Params

/-- The value a host read of a register returns while BUSY = 1 (70_reset_and_hazards.md R240 H2), at a draw. -/
opaque drawWord : Nat → Word

/-- The value a host read of a destination byte or of the stream returns while BUSY = 1 (R240 H4), at a draw. -/
opaque drawByte : Nat → Byte

/-- How long a prefix of a frame's bytes reached the stream (41_serializer.md R136, 70_reset_and_hazards.md R231),
at a draw; the model takes it modulo the number of possible lengths. -/
opaque drawCount : Nat → Nat

/-- Whether the destination byte at an address was written before the command ended early
(42_codec.md R172, 70_reset_and_hazards.md R231), at a draw. -/
opaque drawWritten : Nat → Nat → Bool

/-- Which of several writes to one destination address lands last, at a draw (notes/assumptions/7.md). -/
opaque drawLast : Nat → Nat → Nat

/-- Which of several possible ends of a command happens, at a draw (20_memory.md R71). -/
opaque drawEnding : Nat → Nat

/-- STREAM_POS after a count that does not fit 64 bits, which no rule states (notes/assumptions/8.md). -/
opaque streamPosBeyond : Word → Nat → Word

end Config

end Sys2Proof
end

