-- ==== Sys2Proof/Syntax.lean ====
section
/-! DEFINITION. The commands of the block, one constructor per row of spec/opcode_table.json (30_encoding.md R82).
No command carries an operand (R83). -/

namespace Sys2Proof

/-- One command of the opcode map of 30_encoding.md R82. -/
inductive Instr where
  | nop
  | geomFile
  | geomMem
  | fcount
  | wrframe
  | strclr
  | blkpack16le
  | blkpack16be
  | blkpack8
  | blkunpack16le
  | blkunpack16be
  | blkunpack8
  | pack
  | unpack
  deriving DecidableEq, Repr

end Sys2Proof
end

