-- ==== Sys2Proof/WellFormed.lean ====
section
/-! DEFINITION. What makes a 64-bit word a command word (30_encoding.md R80, R84), and a command well formed. -/

namespace Sys2Proof

/-- The OPC field, bits [7:0] of a command word (30_encoding.md R80). -/
def opcField (w : Word) : BitVec 8 := w.extractLsb' 0 8

/-- The RSVD field, bits [63:8] of a command word (30_encoding.md R80). -/
def rsvdField (w : Word) : BitVec 56 := w.extractLsb' 8 56

/-- The OPC column of 30_encoding.md R82. -/
def assignedOpcodes : List (BitVec 8) :=
  [0x00, 0x01, 0x02, 0x03, 0x10, 0x11, 0x20, 0x21, 0x22, 0x28, 0x29, 0x2A, 0x30, 0x31]

/-- RSVD "must be 0" (30_encoding.md R80). -/
def rsvdIsZero (w : Word) : Bool := rsvdField w == 0

/-- The opcode is one that R82 lists (30_encoding.md R84). -/
def opcIsAssigned (w : Word) : Bool := assignedOpcodes.contains (opcField w)

/-- A word that selects a command: RSVD is 0 and OPC is assigned (30_encoding.md R81, R84). -/
def isCommandWord (w : Word) : Bool := rsvdIsZero w && opcIsAssigned w

/-- Every command is well formed: no command word carries an operand or immediate (30_encoding.md R83), so there is
nothing in an `Instr` to check. What can be ill formed is a word, `isCommandWord`. -/
def Instr.wellFormed : Instr → Bool
  | .nop | .geomFile | .geomMem | .fcount | .wrframe | .strclr => true
  | .blkpack16le | .blkpack16be | .blkpack8 => true
  | .blkunpack16le | .blkunpack16be | .blkunpack8 => true
  | .pack | .unpack => true

end Sys2Proof
end

