-- ==== Sys2Proof/Decode.lean ====
section
/-! DEFINITION. The command decoder of 30_encoding.md R81, and the encoder of the words of R82. -/

namespace Sys2Proof

/-- Why a word is no command; each is ILLEGAL_COMMAND (30_encoding.md R81, R84). -/
inductive IllegalWord where
  /-- RSVD, bits [63:8], is not 0. -/
  | reservedBitsSet
  /-- OPC is not in the column of R82. -/
  | unassignedOpcode
  deriving DecidableEq, Repr

/-- The command that an opcode selects (the map of 30_encoding.md R82). -/
def opcodeMap (opc : Nat) : Option Instr :=
  match opc with
  | 0x00 => some .nop
  | 0x01 => some .geomFile
  | 0x02 => some .geomMem
  | 0x03 => some .fcount
  | 0x10 => some .wrframe
  | 0x11 => some .strclr
  | 0x20 => some .blkpack16le
  | 0x21 => some .blkpack16be
  | 0x22 => some .blkpack8
  | 0x28 => some .blkunpack16le
  | 0x29 => some .blkunpack16be
  | 0x2A => some .blkunpack8
  | 0x30 => some .pack
  | 0x31 => some .unpack
  | _ => none

/-- Decoding a command word, in the order of 30_encoding.md R81. -/
def decode (w : Word) : Except IllegalWord Instr :=
  if rsvdField w ≠ 0 then .error .reservedBitsSet
  else
    match opcodeMap (opcField w).toNat with
    | none => .error .unassignedOpcode
    | some i => .ok i

/-- The full 64-bit command word of a command (the word column of 30_encoding.md R82). -/
def encode : Instr → Word
  | .nop => 0x0000000000000000#64
  | .geomFile => 0x0000000000000001#64
  | .geomMem => 0x0000000000000002#64
  | .fcount => 0x0000000000000003#64
  | .wrframe => 0x0000000000000010#64
  | .strclr => 0x0000000000000011#64
  | .blkpack16le => 0x0000000000000020#64
  | .blkpack16be => 0x0000000000000021#64
  | .blkpack8 => 0x0000000000000022#64
  | .blkunpack16le => 0x0000000000000028#64
  | .blkunpack16be => 0x0000000000000029#64
  | .blkunpack8 => 0x000000000000002A#64
  | .pack => 0x0000000000000030#64
  | .unpack => 0x0000000000000031#64

/-- The command word of a table row whose low `nbits` bits are those of `w`, every bit above them 0. -/
def tableWord (nbits w : Nat) : Word := BitVec.ofNat 64 (w % 2 ^ nbits)

/-- The command the decoder reads from an instruction whose bits are `w`. A command is one register write of its whole
64-bit word (20_memory.md R74), so no byte order enters; a value that does not fit 64 bits is no command word. -/
def decodeTableWord (nbits w : Nat) : Option Instr :=
  if w % 2 ^ nbits < 2 ^ 64 then
    match decode (tableWord nbits w) with
    | .ok i => some i
    | .error _ => none
  else none

end Sys2Proof
end

