-- ==== Sys2Proof/Machine/State.lean ====
section
/-! DEFINITION. Everything the spec gives the machine, as plain data (10_state.md, 20_memory.md R60), the reasons a
step can stop, and the machine right after reset (70_reset_and_hazards.md R230). -/

namespace Sys2Proof.Machine

/-- The plane numbers p = 0, 1, 2 (10_state.md R21). -/
inductive Plane where
  | p0
  | p1
  | p2
  deriving DecidableEq, Repr

/-- The error codes 0 to 9 of 60_exceptions.md R200. -/
inductive ErrCode where
  | ok
  | invalidArgument
  | notFound
  | protocol
  | exhausted
  | unsupported
  | io
  | outOfMemory
  | illegalCommand
  | busError
  deriving DecidableEq, Repr

/-- The fields of STATUS that are stored (10_state.md R24, R36). BUSY is whether a command is in flight
(`State.inFlight`); the reserved bits have no storage. -/
structure Status where
  /-- DONE, bit 1. -/
  done : Bool
  /-- ERR, bits [15:8]. -/
  err : ErrCode
  /-- STREAM_ERR, bit 16. -/
  streamErr : Bool
  deriving DecidableEq, Repr

/-- CFG_FMT, CFG_W and CFG_H (10_state.md R27). -/
structure CfgRegs where
  fmt : Word
  w : Word
  h : Word
  deriving DecidableEq, Repr

/-- ALIGNp_STRIDE, ALIGNp_LINES and ALIGNp_SIZE of one plane (10_state.md R29). -/
structure PlaneAlign where
  stride : Word
  lines : Word
  size : Word
  deriving DecidableEq, Repr

/-- The nine ALIGNp registers (10_state.md R29). -/
structure AlignRegs where
  p0 : PlaneAlign
  p1 : PlaneAlign
  p2 : PlaneAlign
  deriving DecidableEq, Repr

/-- FC_LEN, FC_HDR, FC_COUNT and FC_EXTENT (10_state.md R30). -/
structure FcRegs where
  len : Word
  hdr : Word
  count : Word
  extent : Word
  deriving DecidableEq, Repr

/-- GEOM_ROWBYTESp, GEOM_LINESp, GEOM_STRIDEp and GEOM_SIZEp of one plane (10_state.md R31). -/
structure PlaneGeom where
  rowBytes : Word
  lines : Word
  stride : Word
  size : Word
  deriving DecidableEq, Repr

/-- The GEOM_* registers (10_state.md R31). -/
structure GeomRegs where
  nplanes : Word
  p0 : PlaneGeom
  p1 : PlaneGeom
  p2 : PlaneGeom
  frame : Word
  deriving DecidableEq, Repr

/-- The ADDRp, STRIDEp and LENp registers of one plane of a frame (10_state.md R32, R33). -/
structure PlaneRegs where
  addr : Word
  stride : Word
  len : Word
  deriving DecidableEq, Repr

/-- The SRC_* or the DST_* registers (10_state.md R32, R33). -/
structure FrameRegs where
  fmt : Word
  w : Word
  h : Word
  p0 : PlaneRegs
  p1 : PlaneRegs
  p2 : PlaneRegs
  deriving DecidableEq, Repr

/-- BLK_IN0..3, BLK_PK and BLK_OUT0..3 (10_state.md R25, R34). -/
structure BlkRegs where
  in0 : Word
  in1 : Word
  in2 : Word
  in3 : Word
  pk : Word
  out0 : Word
  out1 : Word
  out2 : Word
  out3 : Word
  deriving DecidableEq, Repr

/-- The registers of the map of 10_state.md R21, by name. -/
inductive Reg where
  | id
  | cmd
  | status
  | ctrl
  | cfgFmt
  | cfgW
  | cfgH
  | streamPos
  | alignStride (p : Plane)
  | alignLines (p : Plane)
  | alignSize (p : Plane)
  | fcLen
  | fcHdr
  | fcCount
  | fcExtent
  | geomNPlanes
  | geomRowBytes (p : Plane)
  | geomLines (p : Plane)
  | geomStride (p : Plane)
  | geomSize (p : Plane)
  | geomFrame
  | srcFmt
  | srcW
  | srcH
  | srcAddr (p : Plane)
  | srcStride (p : Plane)
  | srcLen (p : Plane)
  | dstFmt
  | dstW
  | dstH
  | dstAddr (p : Plane)
  | dstStride (p : Plane)
  | dstLen (p : Plane)
  | blkIn0
  | blkIn1
  | blkIn2
  | blkIn3
  | blkPk
  | blkOut0
  | blkOut1
  | blkOut2
  | blkOut3
  deriving DecidableEq, Repr

/-- Host memory as the memory port sees it (10_state.md R37): the listed bytes, addresses strictly rising, none equal to
what an unlisted address reads as (`Memory.wf`, in Machine/Ops.lean). -/
abbrev Memory := List Host.Cell

/-- How the memory port answers an access to one address (00_scope.md R9, 70_reset_and_hazards.md R240 H7). -/
inductive PortAnswer where
  /-- The byte is read or written. -/
  | data
  /-- The port answers with an error; the command ends with BUS_ERROR. -/
  | error
  /-- The port has not answered; the command waits (R246). -/
  | silent
  deriving DecidableEq, Repr

/-- How the stream sink answers one byte (41_serializer.md R134, 70_reset_and_hazards.md R240 H8). -/
inductive SinkAnswer where
  | accept
  | refuse
  /-- The sink has not answered; the command waits (R246). -/
  | silent
  deriving DecidableEq, Repr

/-- What the host last read (the model's own view of the host; no rule of the spec stores it). -/
inductive Seen where
  | nothing
  /-- A 64-bit register read. -/
  | word (w : Word)
  /-- A byte of host memory or of the stream. -/
  | byte (b : Byte)
  /-- A read past the end of the stream. -/
  | endOfStream
  deriving DecidableEq, Repr

/-- One move of an agent (00_scope.md R2): what the environment does next, or the engine's own turn. -/
inductive Event where
  /-- The engine takes its turn: it runs the command in flight. -/
  | engine
  /-- Reset is asserted and released (70_reset_and_hazards.md R230, R231). -/
  | reset
  /-- A host write of `bytes` bytes on the register bus (10_state.md R20). -/
  | regWrite (addr bytes : Nat) (v : Word)
  /-- A host read of `bytes` bytes on the register bus (10_state.md R20). -/
  | regRead (addr bytes : Nat)
  /-- The host or another agent writes one byte of host memory (70_reset_and_hazards.md R240 H3). -/
  | memWrite (a : Nat) (b : Byte)
  /-- The host reads one byte of host memory (R240 H4). -/
  | memRead (a : Nat)
  /-- Another writer appends to the stream, such as the host writing a header (10_state.md R38, R240 H5). -/
  | streamAppend (bs : List Byte)
  /-- The host truncates the stream (70_reset_and_hazards.md R243). -/
  | streamTruncate (n : Nat)
  /-- The host reads one byte of the stream (R240 H4). -/
  | streamRead (i : Nat)
  /-- The memory port's answers from now on: an address not listed answers with data. -/
  | portAnswers (port : List (Nat × PortAnswer))
  /-- The sink's answers from now on, byte by byte: past the end it accepts. -/
  | sinkAnswers (sink : List SinkAnswer)
  deriving DecidableEq, Repr

/-- The whole machine: the block's registers and engine, the memory and the stream it reaches, and the agents around
it (00_scope.md R2). -/
structure State where
  /-- The OPEN parameters (00_scope.md R5); no step changes them. -/
  params : Config.Params
  /-- The command word in flight, if any (10_state.md R35); STATUS.BUSY is whether there is one (R24). -/
  inFlight : Option Word
  /-- STATUS, but for BUSY (10_state.md R24, R36). -/
  status : Status
  /-- CTRL (10_state.md R26). -/
  ctrl : Word
  /-- CFG_* (10_state.md R27). -/
  cfg : CfgRegs
  /-- STREAM_POS (10_state.md R28). -/
  streamPos : Word
  /-- ALIGNp_* (10_state.md R29). -/
  align : AlignRegs
  /-- FC_* (10_state.md R30). -/
  fc : FcRegs
  /-- GEOM_* (10_state.md R31). -/
  geom : GeomRegs
  /-- SRC_* (10_state.md R32). -/
  src : FrameRegs
  /-- DST_* (10_state.md R33). -/
  dst : FrameRegs
  /-- BLK_* (10_state.md R25, R34). -/
  blk : BlkRegs
  /-- Host memory (10_state.md R37). -/
  mem : Memory
  /-- The output stream, first byte first (10_state.md R38). -/
  stream : List Byte
  /-- How the memory port answers, by address; an address not listed answers with data. The model's own. -/
  port : List (Nat × PortAnswer)
  /-- How the sink answers the bytes offered next; past the end it accepts. The model's own. -/
  sink : List SinkAnswer
  /-- The moves to come, oldest first; with none left only the engine moves. The model's own. -/
  events : List Event
  /-- What the host last read. The model's own. -/
  seen : Seen
  /-- How many free values have been drawn. The model's own. -/
  draws : Nat
  deriving DecidableEq, Repr

/-- Why the machine stops outside the block's semantics. Every one is a breach of a duty that the spec says a model
faults on; each is safe: nothing can be proved of the run that follows. -/
inductive Fault where
  /-- A host register access narrower than 64 bits, misaligned, or reaching into the window from below it; raised by the
  register bus (10_state.md R20; notes/assumptions/18.md). Safe. -/
  | badRegisterAccess
  /-- A host write to a register while BUSY = 1, CMD among them; raised by the register bus (R240 H1, R23). Safe. -/
  | registerWriteWhileBusy
  /-- A write by another agent into a window of the running command; raised by a memory write (R240 H3). Safe. -/
  | windowWriteWhileBusy
  /-- Another agent writes the stream during WRFRAME; raised by an append or a truncation (R240 H5). Safe. -/
  | streamWriteDuringFrame
  /-- A window of a running WRFRAME, PACK or UNPACK covers a region with read side effects; raised by the three commands
  and by a reset during one (R240 H6). Safe. -/
  | deviceWindow
  /-- A host access to a memory address of 2^ADDR_W or more, which does not exist (10_state.md R37); raised by a memory
  read or write of the host. Safe. -/
  | noSuchAddress
  deriving DecidableEq, Repr

/-- Why an instruction has no meaning in this model. -/
inductive Refusal where
  /-- The instruction of that mnemonic has no meaning yet; raised by exec's arm alone. Safe. No arm raises it now. -/
  | notModelled (mnemonic : String)
  deriving DecidableEq, Repr

/-- A plane's frame registers at reset. -/
def PlaneRegs.zero : PlaneRegs := { addr := 0, stride := 0, len := 0 }

/-- The SRC_* or DST_* registers at reset. -/
def FrameRegs.zero : FrameRegs :=
  { fmt := 0, w := 0, h := 0, p0 := PlaneRegs.zero, p1 := PlaneRegs.zero, p2 := PlaneRegs.zero }

/-- A plane's geometry registers at reset. -/
def PlaneGeom.zero : PlaneGeom := { rowBytes := 0, lines := 0, stride := 0, size := 0 }

/-- A plane's alignment registers at reset. -/
def PlaneAlign.zero : PlaneAlign := { stride := 0, lines := 0, size := 0 }

/-- The machine right after reset: every register of 10_state.md R21 at its reset value, no command in flight
(70_reset_and_hazards.md R230). The spec gives host memory, the stream and the environment no reset value: nothing
written, an empty stream, a port and a sink that serve every access, no move pending (notes/assumptions/1.md, 2.md,
3.md, 4.md and 15.md). -/
def State.reset : State where
  params := Config.params
  inFlight := none
  status := { done := false, err := .ok, streamErr := false }
  ctrl := 0
  cfg := { fmt := 0, w := 0, h := 0 }
  streamPos := 0
  align := { p0 := PlaneAlign.zero, p1 := PlaneAlign.zero, p2 := PlaneAlign.zero }
  fc := { len := 0, hdr := 0, count := 0, extent := 0 }
  geom := { nplanes := 0, p0 := PlaneGeom.zero, p1 := PlaneGeom.zero, p2 := PlaneGeom.zero, frame := 0 }
  src := FrameRegs.zero
  dst := FrameRegs.zero
  blk := { in0 := 0, in1 := 0, in2 := 0, in3 := 0, pk := 0, out0 := 0, out1 := 0, out2 := 0, out3 := 0 }
  mem := []
  stream := []
  port := []
  sink := []
  events := []
  seen := .nothing
  draws := 0

end Sys2Proof.Machine
end

