-- ==== Sys2Proof/Machine/Flags.lean ====
section
/-! DEFINITION. The fields of STATUS and CTRL, which play the role of flags and mode bits (10_state.md R24, R26, R36,
R39): their values, how they read as a register, and every update of them. -/

namespace Sys2Proof.Machine

/-- The number of an error code in STATUS.ERR (60_exceptions.md R200). -/
def ErrCode.code : ErrCode → BitVec 8
  | .ok => 0
  | .invalidArgument => 1
  | .notFound => 2
  | .protocol => 3
  | .exhausted => 4
  | .unsupported => 5
  | .io => 6
  | .outOfMemory => 7
  | .illegalCommand => 8
  | .busError => 9

/-- The codes some command raises; NOT_FOUND, EXHAUSTED and OUT_OF_MEMORY are "never" raised (60_exceptions.md R200). -/
def ErrCode.produced : ErrCode → Bool
  | .ok | .invalidArgument | .protocol | .unsupported | .io | .illegalCommand | .busError => true
  | .notFound | .exhausted | .outOfMemory => false

/-- STATUS.BUSY: 1 from issue to completion of a command (10_state.md R24). -/
def State.busy (s : State) : Bool := s.inFlight.isSome

/-- STATUS as the host reads it: [0] BUSY, [1] DONE, [7:2] 0, [15:8] ERR, [16] STREAM_ERR, [63:17] 0
(10_state.md R21, R24). -/
def State.statusWord (s : State) : Word :=
  0#47 ++ BitVec.ofBool s.status.streamErr ++ s.status.err.code ++ 0#6 ++ BitVec.ofBool s.status.done
    ++ BitVec.ofBool s.busy

/-- STATUS.DONE <- 0 and STATUS.ERR <- 0, at issue (10_state.md R23). -/
def Status.issued (st : Status) : Status := { st with done := false, err := .ok }

/-- STATUS.DONE <- 1 and STATUS.ERR <- e, at completion (60_exceptions.md R201). -/
def Status.finished (e : ErrCode) (st : Status) : Status := { st with done := true, err := e }

/-- STATUS.STREAM_ERR <- b (10_state.md R36). -/
def Status.withStreamErr (b : Bool) (st : Status) : Status := { st with streamErr := b }

/-- CTRL as stored when the host writes `v`: bits [63:1] "read 0 and writes to them are ignored" (10_state.md R26). -/
def ctrlStored (v : Word) : Word := v &&& 1#64

/-- CTRL.MARKER_EN, bit 0 (10_state.md R26). -/
def State.markerEn (s : State) : Bool := s.ctrl.getLsbD 0

end Sys2Proof.Machine
end

