-- ==== Sys2Proof/Machine/Ops.lean ====
section
/-! DEFINITION. The named operations over memory, registers and the engine: host memory (10_state.md R37), the answers
of the memory port and the sink (00_scope.md R9), the register map (10_state.md R21), issue (R23), and completion,
which is the block's taking of an exception (60_exceptions.md R201). -/

namespace Sys2Proof.Machine

/-! ### Host memory -/

/-- MemRead of one byte (00_scope.md R9): the listed byte, else what an unlisted address reads as. -/
def Memory.read (m : Memory) (a : Nat) : Byte :=
  match m with
  | [] => Config.unlistedByte
  | (k, b) :: rest => if k = a then b else Memory.read rest a

/-- `m` with `b` listed first at `a`, or not listed where that is what an unlisted address reads as. -/
def Memory.cons (a : Nat) (b : Byte) (m : Memory) : Memory :=
  if b = Config.unlistedByte then m else (a, b) :: m

/-- MemWrite of one byte (00_scope.md R9), keeping the canonical form. -/
def Memory.write (m : Memory) (a : Nat) (b : Byte) : Memory :=
  match m with
  | [] => Memory.cons a b []
  | (k, c) :: rest =>
    if a < k then Memory.cons a b ((k, c) :: rest)
    else if a = k then Memory.cons a b rest
    else (k, c) :: Memory.write rest a b

/-- The writes of a list of cells, first cell first. -/
def Memory.writeAll (m : Memory) (cells : List Host.Cell) : Memory :=
  match cells with
  | [] => m
  | (a, b) :: rest => Memory.writeAll (m.write a b) rest

/-- The canonical form from address `lo` up: addresses strictly rising, none listed with the unlisted byte. -/
def Memory.wfFrom (lo : Nat) (m : Memory) : Bool :=
  match m with
  | [] => true
  | (a, b) :: rest => decide (lo ≤ a) && (b != Config.unlistedByte) && Memory.wfFrom (a + 1) rest

/-- The canonical form of memory: equal memories are equal lists. -/
def Memory.wf (m : Memory) : Bool := Memory.wfFrom 0 m

/-- The cells of a byte sequence stored from address `a` up (00_scope.md R9). -/
def cellsAt (a : Nat) (bs : List Byte) : List Host.Cell :=
  match bs with
  | [] => []
  | b :: rest => (a, b) :: cellsAt (a + 1) rest

/-- The bytes that `cells` write to address `a`, in the order written. -/
def writesTo (a : Nat) (cells : List Host.Cell) : List Byte :=
  (cells.filter fun c => c.1 == a).map Prod.snd

/-- Which of the bytes written to address `a` it holds in the end: the only one, or a drawn one where several writes
reach it, since the order of a command's accesses is unspecified (20_memory.md R71). DESIGN CHOICE, safe
(notes/assumptions/7.md). -/
def lastWritten (draw a : Nat) (b : Byte) (written : List Byte) : Byte :=
  match written with
  | [] => b
  | [only] => only
  | several => several.getD (Config.drawLast draw a % several.length) b

/-- The writes of a command with every address given the byte it holds in the end (42_codec.md R172). -/
def settledWrites (draw : Nat) (cells : List Host.Cell) : List Host.Cell :=
  cells.map fun c => (c.1, lastWritten draw c.1 c.2 (writesTo c.1 cells))

/-- The writes that happened before a command ended early: a drawn subset, byte by byte (42_codec.md R172,
70_reset_and_hazards.md R231; notes/assumptions/11.md). -/
def partialWrites (draw : Nat) (cells : List Host.Cell) : List Host.Cell :=
  (settledWrites draw cells).filter fun c => Config.drawWritten draw c.1

/-! ### The memory port and the stream sink -/

/-- How the memory port answers an access to address `a`. DESIGN CHOICE, unsafe (notes/assumptions/4.md). -/
def portAnswer (port : List (Nat × PortAnswer)) (a : Nat) : PortAnswer :=
  match port with
  | [] => .data
  | (k, x) :: rest => if k = a then x else portAnswer rest a

/-- How the sink answers the first byte offered. DESIGN CHOICE, unsafe (notes/assumptions/4.md). -/
def sinkAnswer (sink : List SinkAnswer) : SinkAnswer :=
  match sink with
  | [] => .accept
  | x :: _ => x

/-- How many of `n` bytes offered in order the sink accepts before it refuses or fails to answer one. -/
def acceptCount (sink : List SinkAnswer) (n : Nat) : Nat :=
  match sink, n with
  | [], n => n
  | _ :: _, 0 => 0
  | .accept :: rest, n + 1 => acceptCount rest n + 1
  | .refuse :: _, _ + 1 => 0
  | .silent :: _, _ + 1 => 0

/-- STREAM_POS after `k` more accepted bytes, "by one per accepted byte" (10_state.md R28). Past 2^64 - 1 no rule
states it: a free value. DESIGN CHOICE, safe (notes/assumptions/8.md). -/
def posAfter (pos : Word) (k : Nat) : Word :=
  if pos.toNat + k < 2 ^ 64 then BitVec.ofNat 64 (pos.toNat + k) else Config.streamPosBeyond pos k

/-- Which of the early ends that a command can come to happens: none, the only one, or a drawn one, since the order of
the engine's accesses is unspecified (20_memory.md R71). DEDUCED, safe (notes/assumptions/11.md). -/
def drawEarlyEnd {α : Type} (draw : Nat) (ends : List α) : Option α :=
  match ends with
  | [] => none
  | [e] => some e
  | e :: rest => some ((e :: rest).getD (Config.drawEnding draw % (rest.length + 1)) e)

/-! ### Updates of the state -/

/-- A free value has been drawn. -/
def State.drew (s : State) : State := { s with draws := s.draws + 1 }

/-- GEOM_* <- g (10_state.md R31). -/
def State.withGeom (g : GeomRegs) (s : State) : State := { s with geom := g }

/-- FC_EXTENT <- extent and FC_COUNT <- count (10_state.md R30). -/
def State.withFrameCount (extent count : Word) (s : State) : State :=
  { s with fc := { s.fc with extent := extent, count := count } }

/-- BLK_PK <- v (10_state.md R34). -/
def State.withBlkPk (v : Word) (s : State) : State := { s with blk := { s.blk with pk := v } }

/-- BLK_OUT0..3 <- v0..v3 (10_state.md R34). -/
def State.withBlkOut (v0 v1 v2 v3 : Word) (s : State) : State :=
  { s with blk := { s.blk with out0 := v0, out1 := v1, out2 := v2, out3 := v3 } }

/-- Host memory <- m (10_state.md R37). -/
def State.withMem (m : Memory) (s : State) : State := { s with mem := m }

/-- The stream <- bs (10_state.md R38). -/
def State.withStream (bs : List Byte) (s : State) : State := { s with stream := bs }

/-- STATUS.STREAM_ERR <- b (10_state.md R36). -/
def State.withStreamErr (b : Bool) (s : State) : State := { s with status := s.status.withStreamErr b }

/-- STREAM_POS <- v (10_state.md R28). -/
def State.withStreamPos (v : Word) (s : State) : State := { s with streamPos := v }

/-- What the host last read <- x. -/
def State.withSeen (x : Seen) (s : State) : State := { s with seen := x }

/-- The sink's answers from now on. -/
def State.withSink (sink : List SinkAnswer) (s : State) : State := { s with sink := sink }

/-- The memory port's answers from now on. -/
def State.withPort (port : List (Nat × PortAnswer)) (s : State) : State := { s with port := port }

/-- The moves to come. -/
def State.withEvents (es : List Event) (s : State) : State := { s with events := es }

/-- Emit of bytes that the sink accepts, with STREAM_POS counting them (00_scope.md R9, the Put of 41_serializer.md
R130). -/
def State.emitted (bs : List Byte) (s : State) : State :=
  { s with stream := s.stream ++ bs, streamPos := posAfter s.streamPos bs.length, sink := s.sink.drop bs.length }

/-! ### Issue and completion -/

/-- Issue of the command word `w`: STATUS.BUSY <- 1, STATUS.DONE <- 0, STATUS.ERR <- 0 (10_state.md R23). -/
def State.issue (w : Word) (s : State) : State := { s with inFlight := some w, status := s.status.issued }

/-- Completion of the command in flight with code `e`: STATUS.ERR <- e, STATUS.DONE <- 1, STATUS.BUSY <- 0, and nothing
else (60_exceptions.md R201). -/
def State.finish (e : ErrCode) (s : State) : State := { s with inFlight := none, status := s.status.finished e }

/-- `raise e` (00_scope.md R10): the block's taking of an exception (60_exceptions.md R201). It saves no return state
and changes no mode or mask. Nothing returns from it: the next issue clears DONE and ERR (60_exceptions.md R204). -/
def raise (e : ErrCode) (s : State) : Host.Outcome State Fault Refusal := .next (s.finish e)

/-- `complete` (00_scope.md R10): the command ends with code OK (60_exceptions.md R201). -/
def complete (s : State) : Host.Outcome State Fault Refusal := .next (s.finish .ok)

/-- The block after reset is asserted and released: every register at its reset value and no command in flight
(70_reset_and_hazards.md R230). Host memory, the stream, the parameters and the agents around the block are not the
block's to reset. -/
def State.blockReset (s : State) : State :=
  { State.reset with
    params := s.params
    mem := s.mem
    stream := s.stream
    port := s.port
    sink := s.sink
    events := s.events
    seen := s.seen
    draws := s.draws }

/-! ### The register map -/

/-- Access of a register from the host's side (10_state.md R21). -/
inductive Access where
  | ro
  | rw
  | wo
  deriving DecidableEq, Repr

/-- The offsets 0x000 to 0x0A0 of 10_state.md R21. -/
def regMapControl : List (Nat × Reg) :=
  [(0x000, .id), (0x008, .cmd), (0x010, .status), (0x018, .ctrl),
   (0x020, .cfgFmt), (0x028, .cfgW), (0x030, .cfgH), (0x038, .streamPos),
   (0x040, .alignStride .p0), (0x048, .alignLines .p0), (0x050, .alignSize .p0),
   (0x058, .alignStride .p1), (0x060, .alignLines .p1), (0x068, .alignSize .p1),
   (0x070, .alignStride .p2), (0x078, .alignLines .p2), (0x080, .alignSize .p2),
   (0x088, .fcLen), (0x090, .fcHdr), (0x098, .fcCount), (0x0A0, .fcExtent)]

/-- The offsets 0x0C0 to 0x128 of 10_state.md R21. -/
def regMapGeom : List (Nat × Reg) :=
  [(0x0C0, .geomNPlanes),
   (0x0C8, .geomRowBytes .p0), (0x0D0, .geomRowBytes .p1), (0x0D8, .geomRowBytes .p2),
   (0x0E0, .geomLines .p0), (0x0E8, .geomLines .p1), (0x0F0, .geomLines .p2),
   (0x0F8, .geomStride .p0), (0x100, .geomStride .p1), (0x108, .geomStride .p2),
   (0x110, .geomSize .p0), (0x118, .geomSize .p1), (0x120, .geomSize .p2),
   (0x128, .geomFrame)]

/-- The offsets 0x200 to 0x358 of 10_state.md R21. -/
def regMapFrames : List (Nat × Reg) :=
  [(0x200, .srcFmt), (0x208, .srcW), (0x210, .srcH),
   (0x218, .srcAddr .p0), (0x220, .srcAddr .p1), (0x228, .srcAddr .p2),
   (0x230, .srcStride .p0), (0x238, .srcStride .p1), (0x240, .srcStride .p2),
   (0x248, .srcLen .p0), (0x250, .srcLen .p1), (0x258, .srcLen .p2),
   (0x300, .dstFmt), (0x308, .dstW), (0x310, .dstH),
   (0x318, .dstAddr .p0), (0x320, .dstAddr .p1), (0x328, .dstAddr .p2),
   (0x330, .dstStride .p0), (0x338, .dstStride .p1), (0x340, .dstStride .p2),
   (0x348, .dstLen .p0), (0x350, .dstLen .p1), (0x358, .dstLen .p2)]

/-- The offsets 0x400 to 0x440 of 10_state.md R21. -/
def regMapBlk : List (Nat × Reg) :=
  [(0x400, .blkIn0), (0x408, .blkIn1), (0x410, .blkIn2), (0x418, .blkIn3), (0x420, .blkPk),
   (0x428, .blkOut0), (0x430, .blkOut1), (0x438, .blkOut2), (0x440, .blkOut3)]

/-- The register map of 10_state.md R21. -/
def regMap : List (Nat × Reg) := regMapControl ++ regMapGeom ++ regMapFrames ++ regMapBlk

/-- The register at an offset of the window; none where the map lists none (10_state.md R20, R21). -/
def regAt (off : Nat) : Option Reg := (regMap.find? fun row => row.1 == off).map Prod.snd

/-- The access column of 10_state.md R21. -/
def Reg.access : Reg → Access
  | .id | .status | .streamPos => .ro
  | .cmd => .wo
  | .ctrl | .cfgFmt | .cfgW | .cfgH => .rw
  | .alignStride _ | .alignLines _ | .alignSize _ => .rw
  | .fcLen | .fcHdr => .rw
  | .fcCount | .fcExtent => .ro
  | .geomNPlanes | .geomRowBytes _ | .geomLines _ | .geomStride _ | .geomSize _ | .geomFrame => .ro
  | .srcFmt | .srcW | .srcH | .srcAddr _ | .srcStride _ | .srcLen _ => .rw
  | .dstFmt | .dstW | .dstH | .dstAddr _ | .dstStride _ | .dstLen _ => .rw
  | .blkIn0 | .blkIn1 | .blkIn2 | .blkIn3 | .blkPk => .rw
  | .blkOut0 | .blkOut1 | .blkOut2 | .blkOut3 => .ro

/-- The alignment registers of plane p. -/
def AlignRegs.plane (r : AlignRegs) : Plane → PlaneAlign
  | .p0 => r.p0
  | .p1 => r.p1
  | .p2 => r.p2

/-- The geometry registers of plane p. -/
def GeomRegs.plane (r : GeomRegs) : Plane → PlaneGeom
  | .p0 => r.p0
  | .p1 => r.p1
  | .p2 => r.p2

/-- The frame registers of plane p. -/
def FrameRegs.plane (r : FrameRegs) : Plane → PlaneRegs
  | .p0 => r.p0
  | .p1 => r.p1
  | .p2 => r.p2

/-- The alignment registers with those of plane p changed. -/
def AlignRegs.onPlane (r : AlignRegs) (p : Plane) (g : PlaneAlign → PlaneAlign) : AlignRegs :=
  match p with
  | .p0 => { r with p0 := g r.p0 }
  | .p1 => { r with p1 := g r.p1 }
  | .p2 => { r with p2 := g r.p2 }

/-- The frame registers with those of plane p changed. -/
def FrameRegs.onPlane (r : FrameRegs) (p : Plane) (g : PlaneRegs → PlaneRegs) : FrameRegs :=
  match p with
  | .p0 => { r with p0 := g r.p0 }
  | .p1 => { r with p1 := g r.p1 }
  | .p2 => { r with p2 := g r.p2 }

/-- `reg[NAME]` (00_scope.md R8), and what a host read returns while no command is in flight (10_state.md R20 to R34):
ID reads ID_VALUE (R22), CMD reads 0 (R23). -/
def readReg (r : Reg) (s : State) : Word :=
  match r with
  | .id => Config.idValue
  | .cmd => 0
  | .status => s.statusWord
  | .ctrl => s.ctrl
  | .cfgFmt => s.cfg.fmt
  | .cfgW => s.cfg.w
  | .cfgH => s.cfg.h
  | .streamPos => s.streamPos
  | .alignStride p => (s.align.plane p).stride
  | .alignLines p => (s.align.plane p).lines
  | .alignSize p => (s.align.plane p).size
  | .fcLen => s.fc.len
  | .fcHdr => s.fc.hdr
  | .fcCount => s.fc.count
  | .fcExtent => s.fc.extent
  | .geomNPlanes => s.geom.nplanes
  | .geomRowBytes p => (s.geom.plane p).rowBytes
  | .geomLines p => (s.geom.plane p).lines
  | .geomStride p => (s.geom.plane p).stride
  | .geomSize p => (s.geom.plane p).size
  | .geomFrame => s.geom.frame
  | .srcFmt => s.src.fmt
  | .srcW => s.src.w
  | .srcH => s.src.h
  | .srcAddr p => (s.src.plane p).addr
  | .srcStride p => (s.src.plane p).stride
  | .srcLen p => (s.src.plane p).len
  | .dstFmt => s.dst.fmt
  | .dstW => s.dst.w
  | .dstH => s.dst.h
  | .dstAddr p => (s.dst.plane p).addr
  | .dstStride p => (s.dst.plane p).stride
  | .dstLen p => (s.dst.plane p).len
  | .blkIn0 => s.blk.in0
  | .blkIn1 => s.blk.in1
  | .blkIn2 => s.blk.in2
  | .blkIn3 => s.blk.in3
  | .blkPk => s.blk.pk
  | .blkOut0 => s.blk.out0
  | .blkOut1 => s.blk.out1
  | .blkOut2 => s.blk.out2
  | .blkOut3 => s.blk.out3

/-- A host write of `v` to a register while no command is in flight: a write to CMD issues `v` (10_state.md R23), a
register marked RW "stores all 64 bits written" (R20) but for CTRL's reserved bits (R26), and a write to a register
marked RO "has no effect" (R20). -/
def writeReg (r : Reg) (v : Word) (s : State) : State :=
  match r with
  | .cmd => s.issue v
  | .ctrl => { s with ctrl := ctrlStored v }
  | .cfgFmt => { s with cfg := { s.cfg with fmt := v } }
  | .cfgW => { s with cfg := { s.cfg with w := v } }
  | .cfgH => { s with cfg := { s.cfg with h := v } }
  | .alignStride p => { s with align := s.align.onPlane p fun x => { x with stride := v } }
  | .alignLines p => { s with align := s.align.onPlane p fun x => { x with lines := v } }
  | .alignSize p => { s with align := s.align.onPlane p fun x => { x with size := v } }
  | .fcLen => { s with fc := { s.fc with len := v } }
  | .fcHdr => { s with fc := { s.fc with hdr := v } }
  | .srcFmt => { s with src := { s.src with fmt := v } }
  | .srcW => { s with src := { s.src with w := v } }
  | .srcH => { s with src := { s.src with h := v } }
  | .srcAddr p => { s with src := s.src.onPlane p fun x => { x with addr := v } }
  | .srcStride p => { s with src := s.src.onPlane p fun x => { x with stride := v } }
  | .srcLen p => { s with src := s.src.onPlane p fun x => { x with len := v } }
  | .dstFmt => { s with dst := { s.dst with fmt := v } }
  | .dstW => { s with dst := { s.dst with w := v } }
  | .dstH => { s with dst := { s.dst with h := v } }
  | .dstAddr p => { s with dst := s.dst.onPlane p fun x => { x with addr := v } }
  | .dstStride p => { s with dst := s.dst.onPlane p fun x => { x with stride := v } }
  | .dstLen p => { s with dst := s.dst.onPlane p fun x => { x with len := v } }
  | .blkIn0 => { s with blk := { s.blk with in0 := v } }
  | .blkIn1 => { s with blk := { s.blk with in1 := v } }
  | .blkIn2 => { s with blk := { s.blk with in2 := v } }
  | .blkIn3 => { s with blk := { s.blk with in3 := v } }
  | .blkPk => { s with blk := { s.blk with pk := v } }
  | .id | .status | .streamPos | .fcCount | .fcExtent => s
  | .geomNPlanes | .geomRowBytes _ | .geomLines _ | .geomStride _ | .geomSize _ | .geomFrame => s
  | .blkOut0 | .blkOut1 | .blkOut2 | .blkOut3 => s

end Sys2Proof.Machine
end

