-- ==== Sys2Proof/Machine/Operands.lean ====
section
/-! DEFINITION. The operands of the commands: every operand is a register value (30_encoding.md R83). The format
registry (40_geometry.md R100), row widths and heights (R101), the checks ShapeOK (R106), WindowOK (R104) and NoOverlap
(R105), and the addresses of a frame's rows (41_serializer.md R133, 42_codec.md R155). -/

namespace Sys2Proof.Machine

/-- How an unpacked format's samples are stored (40_geometry.md R100, 42_codec.md R155): 8-bit elements, 16-bit
little-endian elements or 16-bit big-endian elements. -/
inductive Kind where
  | k8
  | le16
  | be16
  deriving DecidableEq, Repr

/-- The layout of an unpacked format (40_geometry.md R100). -/
inductive Layout where
  | planar
  | semiPlanar
  deriving DecidableEq, Repr

/-- The chroma order of a format (40_geometry.md R100). -/
inductive Order where
  | uFirst
  | vFirst
  deriving DecidableEq, Repr

/-- A chroma component (42_codec.md R157). -/
inductive Comp where
  | u
  | v
  deriving DecidableEq, Repr

/-- A registered format: unpacked (codes 1-12) or bit-packed semi-planar (codes 13-14) (40_geometry.md R100). -/
inductive Format where
  | unpacked (l : Layout) (k : Kind) (o : Order)
  | packed (o : Order)
  deriving DecidableEq, Repr

/-- The registry of 40_geometry.md R100: the format of a whole 64-bit *_FMT value, compared as a number
(30_encoding.md R83); none for an unregistered code. -/
def registry (code : Word) : Option Format :=
  match code.toNat with
  | 1 => some (.unpacked .planar .k8 .uFirst)
  | 2 => some (.unpacked .planar .k8 .vFirst)
  | 3 => some (.unpacked .semiPlanar .k8 .uFirst)
  | 4 => some (.unpacked .semiPlanar .k8 .vFirst)
  | 5 => some (.unpacked .planar .le16 .uFirst)
  | 6 => some (.unpacked .planar .le16 .vFirst)
  | 7 => some (.unpacked .semiPlanar .le16 .uFirst)
  | 8 => some (.unpacked .semiPlanar .le16 .vFirst)
  | 9 => some (.unpacked .planar .be16 .uFirst)
  | 10 => some (.unpacked .planar .be16 .vFirst)
  | 11 => some (.unpacked .semiPlanar .be16 .uFirst)
  | 12 => some (.unpacked .semiPlanar .be16 .vFirst)
  | 13 => some (.packed .uFirst)
  | 14 => some (.packed .vFirst)
  | _ => none

/-- ES: the element size in bytes of an unpacked format (40_geometry.md R100). -/
def Kind.size : Kind → Nat
  | .k8 => 1
  | .le16 => 2
  | .be16 => 2

/-- The bit-depth column of 40_geometry.md R100. -/
def Format.bitDepth : Format → Nat
  | .unpacked _ .k8 _ => 8
  | .unpacked _ .le16 _ => 10
  | .unpacked _ .be16 _ => 10
  | .packed _ => 10

/-- ORDER: the chroma order column of 40_geometry.md R100. -/
def Format.order : Format → Order
  | .unpacked _ _ o => o
  | .packed o => o

/-- The planes a format has, in index order (40_geometry.md R100). -/
def Format.planes : Format → List Plane
  | .unpacked .planar _ _ => [.p0, .p1, .p2]
  | .unpacked .semiPlanar _ _ => [.p0, .p1]
  | .packed _ => [.p0, .p1]

/-- NPLANES (40_geometry.md R100). -/
def Format.nplanes (f : Format) : Nat := f.planes.length

/-- first(f): U if ORDER(f) = U-first, otherwise V (42_codec.md R157). -/
def Order.first : Order → Comp
  | .uFirst => .u
  | .vFirst => .v

/-- second(f): the other component (42_codec.md R157). -/
def Order.second : Order → Comp
  | .uFirst => .v
  | .vFirst => .u

/-- RowBytes(f, W, p) (40_geometry.md R101). -/
def rowBytes (f : Format) (w : Nat) (p : Plane) : Nat :=
  match f, p with
  | .unpacked .planar k _, .p0 => w * k.size
  | .unpacked .planar k _, .p1 => w / 2 * k.size
  | .unpacked .planar k _, .p2 => w / 2 * k.size
  | .unpacked .semiPlanar k _, _ => w * k.size
  | .packed _, _ => w / 4 * 5

/-- Lines(f, H, p) (40_geometry.md R101): every format is 4:2:0, so plane 0 has H rows and a chroma plane H / 2. -/
def planeLines (h : Nat) (p : Plane) : Nat :=
  match p with
  | .p0 => h
  | .p1 => h / 2
  | .p2 => h / 2

/-- ShapeOK (b) and (c) of 40_geometry.md R106, for a registered format. -/
def dimsOK (f : Format) (w h : Nat) : Bool :=
  decide (1 ≤ w) && decide (w ≤ Config.maxDim) && decide (1 ≤ h) && decide (h ≤ Config.maxDim) &&
    match f with
    | .unpacked _ _ _ => true
    | .packed _ => decide (w % 4 = 0)

/-- The format of a code for which ShapeOK(code, W, H) holds; none where ShapeOK fails (40_geometry.md R106). -/
def shapeFormat (code w h : Word) : Option Format :=
  match registry code with
  | none => none
  | some f => if dimsOK f w.toNat h.toNat then some f else none

/-- ShapeOK(f, W, H) of 40_geometry.md R106. -/
def shapeOK (code w h : Word) : Bool := (shapeFormat code w h).isSome

/-- The clauses of WindowOK for one plane (40_geometry.md R104). -/
def planeWindowOK (addrW : Nat) (r : PlaneRegs) (rb ln : Nat) : Bool :=
  (r.addr != 0) && (r.stride != 0) &&
    (decide (ln = 0) || decide ((ln - 1) * r.stride.toNat + rb ≤ r.len.toNat)) &&
    decide (r.addr.toNat + r.len.toNat ≤ 2 ^ addrW)

/-- WindowOK(S, f, W, H) of 40_geometry.md R104. -/
def windowOK (addrW : Nat) (fr : FrameRegs) (f : Format) (w h : Nat) : Bool :=
  f.planes.all fun p => planeWindowOK addrW (fr.plane p) (rowBytes f w p) (planeLines h p)

/-- The window [ADDRp, ADDRp + LENp) of one plane (40_geometry.md R104). -/
def PlaneRegs.window (r : PlaneRegs) : Config.Region := { start := r.addr.toNat, len := r.len.toNat }

/-- The windows of a frame's planes (40_geometry.md R104, R105). -/
def frameWindows (fr : FrameRegs) (f : Format) : List Config.Region := f.planes.map fun p => (fr.plane p).window

/-- Two address ranges share no byte; an empty range "overlaps nothing" (40_geometry.md R105). -/
def disjointRegions (a b : Config.Region) : Bool :=
  decide (a.len = 0) || decide (b.len = 0) || decide (a.start + a.len ≤ b.start) || decide (b.start + b.len ≤ a.start)

/-- Every two ranges of a list are disjoint. -/
def pairwiseDisjoint (rs : List Config.Region) : Bool :=
  match rs with
  | [] => true
  | r :: rest => rest.all (disjointRegions r) && pairwiseDisjoint rest

/-- NoOverlap(fs, fd) of 40_geometry.md R105. -/
def noOverlap (src dst : FrameRegs) (fs fd : Format) : Bool :=
  pairwiseDisjoint (frameWindows dst fd) &&
    (frameWindows dst fd).all fun d => (frameWindows src fs).all (disjointRegions d)

/-- The address is in the range. -/
def regionHolds (r : Config.Region) (a : Nat) : Bool := decide (r.start ≤ a) && decide (a < r.start + r.len)

/-- A window covers a byte of a region whose reads have side effects (70_reset_and_hazards.md R240 H6; when it is
checked is DEDUCED, safe, notes/assumptions/16.md). -/
def hitsDevice (devices windows : List Config.Region) : Bool :=
  windows.any fun r => devices.any fun d => !disjointRegions r d

/-- The start of row r of a plane (41_serializer.md R133, 42_codec.md R155). -/
def rowAddr (pr : PlaneRegs) (r : Nat) : Nat := pr.addr.toNat + r * pr.stride.toNat

/-- The address of element x of row r: Elem(S, p, r, x) of 42_codec.md R155. -/
def elemAddr (pr : PlaneRegs) (r x es : Nat) : Nat := rowAddr pr r + x * es

/-- The address of packed block b of row r (42_codec.md R155). -/
def blockAddr (pr : PlaneRegs) (r b : Nat) : Nat := rowAddr pr r + 5 * b

/-- ChromaElem(S, g, r, s, comp) of 42_codec.md R157 (b): jump 1 in a planar format, jump 2 in a semi-planar one. -/
def chromaAddr (fr : FrameRegs) (l : Layout) (k : Kind) (o : Order) (r site : Nat) (c : Comp) : Nat :=
  match l with
  | .planar => elemAddr (if c = o.first then fr.p1 else fr.p2) r site k.size
  | .semiPlanar => elemAddr fr.p1 r (2 * site + if c = o.first then 0 else 1) k.size

/-- The addresses of the logical bytes of row r of a plane, in order. -/
def rowAddrs (pr : PlaneRegs) (rb r : Nat) : List Nat := (List.range rb).map fun c => rowAddr pr r + c

/-- The addresses of the logical bytes of a plane, row by row. -/
def planeAddrs (pr : PlaneRegs) (rb ln : Nat) : List Nat := (List.range ln).flatMap (rowAddrs pr rb)

/-- The addresses of the logical bytes of a frame, plane by plane: every byte a command touches (40_geometry.md R104),
in the order of 41_serializer.md R130. That no padding is touched is DEDUCED, unsafe (notes/assumptions/12.md). -/
def frameAddrs (fr : FrameRegs) (f : Format) (w h : Nat) : List Nat :=
  f.planes.flatMap fun p => planeAddrs (fr.plane p) (rowBytes f w p) (planeLines h p)

end Sys2Proof.Machine
end

