-- ==== Sys2Proof/Machine/Geometry.lean ====
section
/-! DEFINITION. The geometry family: GEOM_FILE, GEOM_MEM and FCOUNT (40_geometry.md). Arithmetic is on natural numbers
(00_scope.md R7); R110 bounds every result, so each fits its 64-bit register. -/

namespace Sys2Proof.Machine

/-- roundup(x, a), for a ≥ 1 (00_scope.md R7). -/
def roundup (x a : Nat) : Nat := (x + a - 1) / a * a

/-- The geometry of one plane, as natural numbers (40_geometry.md R103). -/
structure PlaneLayout where
  rowBytes : Nat
  lines : Nat
  stride : Nat
  size : Nat
  deriving DecidableEq, Repr

/-- A plane's geometry by 40_geometry.md R103, with effective alignments `sa`, `la`, `za` (R102). -/
def alignedLayout (rb ln sa la za : Nat) : PlaneLayout where
  rowBytes := rb
  lines := ln
  stride := roundup rb sa
  size := roundup (roundup rb sa * roundup ln la) za

/-- The effective alignment of a register value: 0 counts as 1 (40_geometry.md R102). -/
def effectiveAlign (v : Word) : Nat := max 1 v.toNat

/-- The file geometry of plane p, with all alignments 1 (40_geometry.md R102, R111). -/
def fileLayout (f : Format) (w h : Nat) (p : Plane) : PlaneLayout where
  rowBytes := rowBytes f w p
  lines := planeLines h p
  stride := rowBytes f w p
  size := rowBytes f w p * planeLines h p

/-- The memory geometry of plane p, with the ALIGNp registers (40_geometry.md R102, R112). -/
def memLayout (al : AlignRegs) (f : Format) (w h : Nat) (p : Plane) : PlaneLayout :=
  alignedLayout (rowBytes f w p) (planeLines h p) (effectiveAlign (al.plane p).stride)
    (effectiveAlign (al.plane p).lines) (effectiveAlign (al.plane p).size)

/-- The frame size: the sum of the plane sizes (40_geometry.md R103). -/
def frameSize (f : Format) (layout : Plane → PlaneLayout) : Nat := (f.planes.map fun p => (layout p).size).sum

/-- The GEOM_*p registers of plane p: its geometry, or 0 where the format has no such plane (10_state.md R31,
40_geometry.md R111, R112). -/
def planeGeomRegs (f : Format) (layout : Plane → PlaneLayout) (p : Plane) : PlaneGeom :=
  if f.planes.contains p then
    { rowBytes := BitVec.ofNat 64 (layout p).rowBytes
      lines := BitVec.ofNat 64 (layout p).lines
      stride := BitVec.ofNat 64 (layout p).stride
      size := BitVec.ofNat 64 (layout p).size }
  else PlaneGeom.zero

/-- The GEOM_* registers of a geometry result (40_geometry.md R111, R112). -/
def geomRegs (f : Format) (layout : Plane → PlaneLayout) : GeomRegs where
  nplanes := BitVec.ofNat 64 f.nplanes
  p0 := planeGeomRegs f layout .p0
  p1 := planeGeomRegs f layout .p1
  p2 := planeGeomRegs f layout .p2
  frame := BitVec.ofNat 64 (frameSize f layout)

/-- An alignment value above MAX_ALIGN is refused (40_geometry.md R112). -/
def planeAlignOK (a : PlaneAlign) : Bool :=
  decide (a.stride.toNat ≤ Config.maxAlign) && decide (a.lines.toNat ≤ Config.maxAlign) &&
    decide (a.size.toNat ≤ Config.maxAlign)

/-- The alignment values that GEOM_MEM reads are at most MAX_ALIGN: those of the format's planes alone
(40_geometry.md R102, R112). -/
def alignsOK (al : AlignRegs) (f : Format) : Bool := f.planes.all fun p => planeAlignOK (al.plane p)

/-- GEOM_FILE: the file geometry of the configured format (40_geometry.md R111). -/
def execGeomFile (s : State) : Host.Outcome State Fault Refusal :=
  match shapeFormat s.cfg.fmt s.cfg.w s.cfg.h with
  | none => raise .invalidArgument s
  | some f => complete (s.withGeom (geomRegs f (fileLayout f s.cfg.w.toNat s.cfg.h.toNat)))

/-- GEOM_MEM: the memory geometry of the configured format (40_geometry.md R112). -/
def execGeomMem (s : State) : Host.Outcome State Fault Refusal :=
  match shapeFormat s.cfg.fmt s.cfg.w s.cfg.h with
  | none => raise .invalidArgument s
  | some f =>
    if alignsOK s.align f then
      complete (s.withGeom (geomRegs f (memLayout s.align f s.cfg.w.toNat s.cfg.h.toNat)))
    else raise .invalidArgument s

/-- Marker mode takes codes 1 and 5 only (40_geometry.md R120, 41_serializer.md R130). -/
def markerFormatOK (marker : Bool) (code : Word) : Bool := !marker || code == 1 || code == 5

/-- The frame extent E: the file frame size, plus MARKER_LEN in marker mode (40_geometry.md R120). -/
def frameExtent (marker : Bool) (f : Format) (w h : Nat) : Nat :=
  frameSize f (fileLayout f w h) + if marker then Config.markerLen else 0

/-- FCOUNT: the frame extent and the number of whole frames (40_geometry.md R120). -/
def execFcount (s : State) : Host.Outcome State Fault Refusal :=
  match shapeFormat s.cfg.fmt s.cfg.w s.cfg.h with
  | none => raise .invalidArgument s
  | some f =>
    if markerFormatOK s.markerEn s.cfg.fmt then
      let e := frameExtent s.markerEn f s.cfg.w.toNat s.cfg.h.toNat
      if s.fc.len.toNat < s.fc.hdr.toNat then raise .protocol s
      else if (s.fc.len.toNat - s.fc.hdr.toNat) % e ≠ 0 then raise .protocol s
      else
        complete (s.withFrameCount (BitVec.ofNat 64 e)
          (BitVec.ofNat 64 ((s.fc.len.toNat - s.fc.hdr.toNat) / e)))
    else raise .invalidArgument s

end Sys2Proof.Machine
end

