-- ==== Sys2Proof/Machine/Serializer.lean ====
section
/-! DEFINITION. The serializer family: WRFRAME and STRCLR (41_serializer.md). A command runs as one transition of the
engine (92_eei_decisions.md D51): what it would do is computed first (`FramePlan`), then the answers of the memory port
and the sink say how far it comes. -/

namespace Sys2Proof.Machine

/-- What a WRFRAME that passed its checks does: the marker bytes, the addresses of the plane bytes in stream order, and
the source windows. -/
structure FramePlan where
  marker : List Byte
  addrs : List Nat
  windows : List Config.Region
  deriving DecidableEq, Repr

/-- The checks of WRFRAME, in the order of 41_serializer.md R130, and what it then does. -/
def wrframePlan (s : State) : Except ErrCode FramePlan :=
  if s.status.streamErr then .error .io
  else
    match shapeFormat s.cfg.fmt s.cfg.w s.cfg.h with
    | none => .error .invalidArgument
    | some f =>
      if !markerFormatOK s.markerEn s.cfg.fmt then .error .invalidArgument
      else if s.src.fmt ≠ s.cfg.fmt then .error .invalidArgument
      else if ¬(s.src.w = 0 ∧ s.src.h = 0) ∧ (s.src.w ≠ s.cfg.w ∨ s.src.h ≠ s.cfg.h) then .error .invalidArgument
      else if !windowOK s.params.addrW s.src f s.cfg.w.toNat s.cfg.h.toNat then .error .invalidArgument
      else
        .ok {
          marker := if s.markerEn then s.params.frameMarker.toList else []
          addrs := frameAddrs s.src f s.cfg.w.toNat s.cfg.h.toNat
          windows := frameWindows s.src f }

/-- The bytes of the frame, in stream order: the marker, then the planes' rows (41_serializer.md R130 to R133). -/
def FramePlan.bytes (p : FramePlan) (m : Memory) : List Byte := p.marker ++ p.addrs.map m.read

/-- How many bytes of the frame can be had before the first that the memory port does not serve; bytes reach the sink in
order (41_serializer.md R136), so no more than these can be emitted. -/
def FramePlan.readable (p : FramePlan) (port : List (Nat × PortAnswer)) : Nat :=
  p.marker.length + (p.addrs.takeWhile fun a => portAnswer port a == .data).length

/-- How many bytes of the frame can reach the stream: those that can be had and that the sink accepts, by the answers as
they stand at the engine's turn. DESIGN CHOICE, unsafe (notes/assumptions/20.md). -/
def FramePlan.emittable (p : FramePlan) (s : State) : Nat := acceptCount s.sink (p.readable s.port)

/-- Some read of the frame is answered with an error. -/
def FramePlan.hasError (p : FramePlan) (s : State) : Bool := p.addrs.any fun a => portAnswer s.port a == .error

/-- The sink refuses a byte of the frame that can be had. -/
def FramePlan.refused (p : FramePlan) (s : State) : Bool :=
  decide (p.emittable s < p.readable s.port) && sinkAnswer (s.sink.drop (p.emittable s)) == .refuse

/-- Some read of the frame, or some byte of it that can be had, is never answered. -/
def FramePlan.unanswered (p : FramePlan) (s : State) : Bool :=
  (p.addrs.any fun a => portAnswer s.port a == .silent) ||
    (decide (p.emittable s < p.readable s.port) && sinkAnswer (s.sink.drop (p.emittable s)) == .silent)

/-- How a WRFRAME that passed its checks ends otherwise than by completing with OK. -/
inductive FrameEnd where
  | busError
  | sinkRefusal
  /-- The command waits for an answer, BUSY = 1 (70_reset_and_hazards.md R246). DEDUCED, safe
  (notes/assumptions/10.md). -/
  | hang
  deriving DecidableEq, Repr

/-- The early ends a WRFRAME can come to. -/
def FramePlan.earlyEnds (p : FramePlan) (s : State) : List FrameEnd :=
  (if p.hasError s then [.busError] else []) ++ (if p.refused s then [.sinkRefusal] else []) ++
    (if p.unanswered s then [.hang] else [])

/-- How many bytes reached the stream before a BUS_ERROR or a reset: a drawn number up to `limit` (41_serializer.md
R136, 70_reset_and_hazards.md R231; notes/assumptions/5.md, 9.md). -/
def drawnPrefix (draw limit : Nat) : Nat := Config.drawCount draw % (limit + 1)

/-- The execution of a WRFRAME that passed its checks, under the answers of the memory port and the sink
(41_serializer.md R130, R134, R136). -/
def runFrame (p : FramePlan) (s : State) : Host.Outcome State Fault Refusal :=
  if hitsDevice s.params.devices p.windows then .fault .deviceWindow
  else
    match drawEarlyEnd s.draws (p.earlyEnds s) with
    | none => complete (s.emitted (p.bytes s.mem))
    | some .sinkRefusal =>
      raise .io ((s.emitted ((p.bytes s.mem).take (p.emittable s))).withStreamErr true
        |>.withSink (s.sink.drop (p.emittable s + 1)) |>.drew)
    | some .busError =>
      let k := drawnPrefix s.draws (p.emittable s)
      raise .busError ((s.emitted ((p.bytes s.mem).take k)).withStreamErr (s.status.streamErr || decide (0 < k))).drew
    | some .hang => .next s.drew

/-- WRFRAME: append one frame, read from host memory, to the stream (41_serializer.md R130). -/
def execWrframe (s : State) : Host.Outcome State Fault Refusal :=
  match wrframePlan s with
  | .error e => raise e s
  | .ok p => runFrame p s

/-- STRCLR: STATUS.STREAM_ERR <- 0, STREAM_POS <- 0 (41_serializer.md R140). -/
def execStrclr (s : State) : Host.Outcome State Fault Refusal :=
  complete ((s.withStreamErr false).withStreamPos 0)

end Sys2Proof.Machine
end

