-- ==== Sys2Proof/Machine/Codec.lean ====
section
/-! DEFINITION. The codec family (42_codec.md): the block functions, the single-block commands on registers, and PACK
and UNPACK on frames in host memory. -/

namespace Sys2Proof.Machine

/-! ### Block functions -/

/-- Four 10-bit components c0..c3 (42_codec.md R150). -/
structure Quad where
  c0 : Sample
  c1 : Sample
  c2 : Sample
  c3 : Sample
  deriving DecidableEq, Repr

/-- The 40-bit value of a packed block: byte k is bits [8k+7:8k] (42_codec.md R150, 20_memory.md R63). -/
abbrev PackedBlock := BitVec 40

/-- PackBlock, as its 40-bit value P (42_codec.md R150). -/
def packBlock (q : Quad) : PackedBlock :=
  q.c0.setWidth 40 ||| (q.c1.setWidth 40 <<< 10) ||| (q.c2.setWidth 40 <<< 20) ||| (q.c3.setWidth 40 <<< 30)

/-- Byte k of a packed block (42_codec.md R150). -/
def blockByte (p : PackedBlock) (k : Nat) : Byte := p.extractLsb' (8 * k) 8

/-- The 5 bytes of a packed block, lowest address first (42_codec.md R150, 20_memory.md R63). -/
def blockBytes (p : PackedBlock) : List Byte := [blockByte p 0, blockByte p 1, blockByte p 2, blockByte p 3, blockByte p 4]

/-- The packed block of 5 bytes: the P of UnpackBlock (42_codec.md R152). -/
def blockOfBytes (b0 b1 b2 b3 b4 : Byte) : PackedBlock :=
  b0.setWidth 40 ||| (b1.setWidth 40 <<< 8) ||| (b2.setWidth 40 <<< 16) ||| (b3.setWidth 40 <<< 24) |||
    (b4.setWidth 40 <<< 32)

/-- UnpackBlock, on the 40-bit value P: component i is bits [10i+9:10i] (42_codec.md R152). -/
def unpackBlock (p : PackedBlock) : Quad where
  c0 := p.extractLsb' 0 10
  c1 := p.extractLsb' 10 10
  c2 := p.extractLsb' 20 10
  c3 := p.extractLsb' 30 10

/-- SampleIn(kind, [e0, e1]), or SampleIn(8, [e0]), which does not look at e1 (42_codec.md R151). Bits above bit 9 of a
16-bit element are masked off: IN16_HIGH_BITS is `mask` on this hardware (00_scope.md R5; notes/assumptions/17.md). -/
def sampleIn (k : Kind) (e0 e1 : Byte) : Sample :=
  match k with
  | .k8 => e0.setWidth 10 <<< 2
  | .le16 => (e1 ++ e0).setWidth 10
  | .be16 => (e0 ++ e1).setWidth 10

/-- c[9:8] under six zero bits (42_codec.md R153). -/
def sampleHigh (c : Sample) : Byte := (c.extractLsb' 8 2).setWidth 8

/-- SampleOut16(c, off), as the element's bytes (e0, e1): e[off] = c[7:0], e[1-off] = c[9:8] (42_codec.md R153). -/
def sampleOut16 (c : Sample) (off : Fin 2) : Byte × Byte :=
  if off = 0 then (c.setWidth 8, sampleHigh c) else (sampleHigh c, c.setWidth 8)

/-- SampleOut8(c): round to nearest, ties up; the result 256 is 0 under `wrap` and 255 under `saturate`
(42_codec.md R154). -/
def sampleOut8 (overflow : Config.RoundOverflow) (c : Sample) : Byte :=
  let t := (c.toNat + 2) >>> 2
  if t ≤ 255 then BitVec.ofNat 8 t
  else
    match overflow with
    | .wrap => 0
    | .saturate => 255

/-! ### Single-block commands -/

/-- The component of one BLK_INk register, whose bits [7:0] and [15:8] are its element's bytes (10_state.md R25,
42_codec.md R161 to R163). -/
def blkSample (k : Kind) (r : Word) : Sample := sampleIn k (r.extractLsb' 0 8) (r.extractLsb' 8 8)

/-- The components of BLK_IN0..3. -/
def blkQuad (k : Kind) (r : BlkRegs) : Quad where
  c0 := blkSample k r.in0
  c1 := blkSample k r.in1
  c2 := blkSample k r.in2
  c3 := blkSample k r.in3

/-- BLK_PK <- PackBlock of the components of BLK_IN0..3 (42_codec.md R161): bits [63:40] are 0 (10_state.md R25). -/
def blkPack (k : Kind) (s : State) : Host.Outcome State Fault Refusal :=
  complete (s.withBlkPk ((packBlock (blkQuad k s.blk)).setWidth 64))

/-- The components of BLK_PK[39:0] (42_codec.md R164). -/
def blkUnpacked (r : BlkRegs) : Quad := unpackBlock (r.pk.setWidth 40)

/-- The element of a component as a BLK_OUT register holds it: e0 | e1 << 8, or one byte, every bit above the element's
width 0 (10_state.md R25, R34). -/
def blkElement (k : Kind) (overflow : Config.RoundOverflow) (c : Sample) : Word :=
  match k with
  | .k8 => (sampleOut8 overflow c).setWidth 64
  | .le16 => ((sampleOut16 c 0).2 ++ (sampleOut16 c 0).1).setWidth 64
  | .be16 => ((sampleOut16 c 1).2 ++ (sampleOut16 c 1).1).setWidth 64

/-- BLK_OUT0..3 <- the elements of the components of BLK_PK (42_codec.md R164). -/
def blkUnpack (k : Kind) (s : State) : Host.Outcome State Fault Refusal :=
  let q := blkUnpacked s.blk
  let e := blkElement k s.params.u8RoundOverflow
  complete (s.withBlkOut (e q.c0) (e q.c1) (e q.c2) (e q.c3))

/-- BLKPACK.16LE (42_codec.md R161). -/
def execBlkpack16le (s : State) : Host.Outcome State Fault Refusal := blkPack .le16 s

/-- BLKPACK.16BE (42_codec.md R162). -/
def execBlkpack16be (s : State) : Host.Outcome State Fault Refusal := blkPack .be16 s

/-- BLKPACK.8 (42_codec.md R163). -/
def execBlkpack8 (s : State) : Host.Outcome State Fault Refusal := blkPack .k8 s

/-- BLKUNPACK.16LE (42_codec.md R164). -/
def execBlkunpack16le (s : State) : Host.Outcome State Fault Refusal := blkUnpack .le16 s

/-- BLKUNPACK.16BE (42_codec.md R165). -/
def execBlkunpack16be (s : State) : Host.Outcome State Fault Refusal := blkUnpack .be16 s

/-- BLKUNPACK.8 (42_codec.md R166). -/
def execBlkunpack8 (s : State) : Host.Outcome State Fault Refusal := blkUnpack .k8 s

/-! ### Frame commands -/

/-- What a PACK or UNPACK that passed its checks does: the addresses it reads, the bytes it writes in the loop order of
42_codec.md R170 and R171, and the windows of both frames. -/
structure CodecPlan where
  reads : List Nat
  cells : List Host.Cell
  windows : List Config.Region
  deriving DecidableEq, Repr

/-- The component of the source element at address `a` (42_codec.md R151, R155). -/
def readSample (m : Memory) (k : Kind) (a : Nat) : Sample := sampleIn k (m.read a) (m.read (a + 1))

/-- The packed block at address `a` (42_codec.md R152, R155). -/
def readBlock (m : Memory) (a : Nat) : PackedBlock :=
  blockOfBytes (m.read a) (m.read (a + 1)) (m.read (a + 2)) (m.read (a + 3)) (m.read (a + 4))

/-- The bytes of a destination element of component `c` (Out of 42_codec.md R171). -/
def elementBytes (k : Kind) (overflow : Config.RoundOverflow) (c : Sample) : List Byte :=
  match k with
  | .k8 => [sampleOut8 overflow c]
  | .le16 => [(sampleOut16 c 0).1, (sampleOut16 c 0).2]
  | .be16 => [(sampleOut16 c 1).1, (sampleOut16 c 1).2]

/-- The components of luma block b of row r of an unpacked frame (42_codec.md R156). -/
def lumaQuad (m : Memory) (fr : FrameRegs) (k : Kind) (r b : Nat) : Quad where
  c0 := readSample m k (elemAddr fr.p0 r (4 * b) k.size)
  c1 := readSample m k (elemAddr fr.p0 r (4 * b + 1) k.size)
  c2 := readSample m k (elemAddr fr.p0 r (4 * b + 2) k.size)
  c3 := readSample m k (elemAddr fr.p0 r (4 * b + 3) k.size)

/-- The components of chroma block b of chroma row r, in the chroma order `od` of the packed format, from an unpacked
frame of chroma order `o` (42_codec.md R157, R170). -/
def chromaQuad (m : Memory) (fr : FrameRegs) (l : Layout) (k : Kind) (o od : Order) (r b : Nat) : Quad where
  c0 := readSample m k (chromaAddr fr l k o r (2 * b) od.first)
  c1 := readSample m k (chromaAddr fr l k o r (2 * b) od.second)
  c2 := readSample m k (chromaAddr fr l k o r (2 * b + 1) od.first)
  c3 := readSample m k (chromaAddr fr l k o r (2 * b + 1) od.second)

/-- Every block (row, block number) of a plane of `ln` rows and `nb` blocks a row, in loop order. -/
def overBlocks (ln nb : Nat) (g : Nat → Nat → List Host.Cell) : List Host.Cell :=
  (List.range ln).flatMap fun r => (List.range nb).flatMap fun b => g r b

/-- The bytes PACK writes, in the loop order of 42_codec.md R170. -/
def packCells (m : Memory) (src dst : FrameRegs) (l : Layout) (k : Kind) (o od : Order) (w h : Nat) : List Host.Cell :=
  overBlocks h (w / 4)
      (fun r b => cellsAt (blockAddr dst.p0 r b) (blockBytes (packBlock (lumaQuad m src k r b)))) ++
    overBlocks (h / 2) (w / 4)
      (fun r b => cellsAt (blockAddr dst.p1 r b) (blockBytes (packBlock (chromaQuad m src l k o od r b))))

/-- The bytes of the four elements of luma block b of row r (42_codec.md R171). -/
def lumaOut (dst : FrameRegs) (k : Kind) (overflow : Config.RoundOverflow) (q : Quad) (r b : Nat) : List Host.Cell :=
  let out := fun x c => cellsAt (elemAddr dst.p0 r x k.size) (elementBytes k overflow c)
  out (4 * b) q.c0 ++ out (4 * b + 1) q.c1 ++ out (4 * b + 2) q.c2 ++ out (4 * b + 3) q.c3

/-- The bytes of the four elements of chroma block b of chroma row r, whose packed chroma order is `os`, in an unpacked
frame of chroma order `o` (42_codec.md R157, R171). -/
def chromaOut (dst : FrameRegs) (l : Layout) (k : Kind) (o os : Order) (overflow : Config.RoundOverflow) (q : Quad)
    (r b : Nat) : List Host.Cell :=
  let out := fun site comp c => cellsAt (chromaAddr dst l k o r site comp) (elementBytes k overflow c)
  out (2 * b) os.first q.c0 ++ out (2 * b) os.second q.c1 ++ out (2 * b + 1) os.first q.c2 ++
    out (2 * b + 1) os.second q.c3

/-- The bytes UNPACK writes, in the loop order of 42_codec.md R171. -/
def unpackCells (m : Memory) (src dst : FrameRegs) (l : Layout) (k : Kind) (o os : Order)
    (overflow : Config.RoundOverflow) (w h : Nat) : List Host.Cell :=
  overBlocks h (w / 4)
      (fun r b => lumaOut dst k overflow (unpackBlock (readBlock m (blockAddr src.p0 r b))) r b) ++
    overBlocks (h / 2) (w / 4)
      (fun r b => chromaOut dst l k o os overflow (unpackBlock (readBlock m (blockAddr src.p1 r b))) r b)

/-- The checks of PACK and UNPACK that follow CodecCheck, in the order of 42_codec.md R170 and R171; true where all
hold. Every one raises INVALID_ARGUMENT, so their order cannot be seen (60_exceptions.md R203). -/
def codecFramesOK (s : State) (fs fd : Format) : Bool :=
  dimsOK fs s.src.w.toNat s.src.h.toNat && dimsOK fd s.src.w.toNat s.src.h.toNat &&
    (s.dst.w == s.src.w) && (s.dst.h == s.src.h) &&
    windowOK s.params.addrW s.src fs s.src.w.toNat s.src.h.toNat &&
    windowOK s.params.addrW s.dst fd s.src.w.toNat s.src.h.toNat &&
    noOverlap s.src s.dst fs fd

/-- The checks of PACK, in the order of 42_codec.md R160 and R170, and what it then does. -/
def packPlan (s : State) : Except ErrCode CodecPlan :=
  match registry s.src.fmt, registry s.dst.fmt with
  | some (.unpacked l k o), some (.packed od) =>
    if codecFramesOK s (.unpacked l k o) (.packed od) then
      .ok {
        reads := frameAddrs s.src (.unpacked l k o) s.src.w.toNat s.src.h.toNat
        cells := packCells s.mem s.src s.dst l k o od s.src.w.toNat s.src.h.toNat
        windows := frameWindows s.src (.unpacked l k o) ++ frameWindows s.dst (.packed od) }
    else .error .invalidArgument
  | some (.unpacked _ _ _), some (.unpacked _ _ _) => .error .unsupported
  | some (.packed _), some _ => .error .unsupported
  | none, _ => .error .invalidArgument
  | some _, none => .error .invalidArgument

/-- The checks of UNPACK, in the order of 42_codec.md R160 and R171, and what it then does. -/
def unpackPlan (s : State) : Except ErrCode CodecPlan :=
  match registry s.src.fmt, registry s.dst.fmt with
  | some (.packed os), some (.unpacked l k o) =>
    if codecFramesOK s (.packed os) (.unpacked l k o) then
      .ok {
        reads := frameAddrs s.src (.packed os) s.src.w.toNat s.src.h.toNat
        cells := unpackCells s.mem s.src s.dst l k o os s.params.u8RoundOverflow s.src.w.toNat s.src.h.toNat
        windows := frameWindows s.src (.packed os) ++ frameWindows s.dst (.unpacked l k o) }
    else .error .invalidArgument
  | some (.packed _), some (.packed _) => .error .unsupported
  | some (.unpacked _ _ _), some _ => .error .unsupported
  | none, _ => .error .invalidArgument
  | some _, none => .error .invalidArgument

/-- The addresses a PACK or UNPACK touches (40_geometry.md R104). -/
def CodecPlan.touched (p : CodecPlan) : List Nat := p.reads ++ p.cells.map Prod.fst

/-- How a PACK or UNPACK that passed its checks ends otherwise than by completing with OK. -/
inductive CodecEnd where
  | busError
  /-- The command waits for an answer, BUSY = 1 (70_reset_and_hazards.md R246). DEDUCED, safe
  (notes/assumptions/10.md). -/
  | hang
  deriving DecidableEq, Repr

/-- The early ends a PACK or UNPACK can come to, by the memory port's answers. -/
def CodecPlan.earlyEnds (p : CodecPlan) (port : List (Nat × PortAnswer)) : List CodecEnd :=
  (if p.touched.any fun a => portAnswer port a == .error then [.busError] else []) ++
    (if p.touched.any fun a => portAnswer port a == .silent then [.hang] else [])

/-- The execution of a PACK or UNPACK that passed its checks, under the answers of the memory port (42_codec.md R170 to
R172): every byte from the memory at issue, all written on success, a drawn subset on a BUS_ERROR. -/
def runCodec (p : CodecPlan) (s : State) : Host.Outcome State Fault Refusal :=
  if hitsDevice s.params.devices p.windows then .fault .deviceWindow
  else
    match drawEarlyEnd s.draws (p.earlyEnds s.port) with
    | none => complete (s.withMem (s.mem.writeAll (settledWrites s.draws p.cells))).drew
    | some .busError => raise .busError (s.withMem (s.mem.writeAll (partialWrites s.draws p.cells))).drew
    | some .hang => .next s.drew

/-- PACK: convert an unpacked frame to a packed frame (42_codec.md R170). -/
def execPack (s : State) : Host.Outcome State Fault Refusal :=
  match packPlan s with
  | .error e => raise e s
  | .ok p => runCodec p s

/-- UNPACK: convert a packed frame to an unpacked frame (42_codec.md R171). -/
def execUnpack (s : State) : Host.Outcome State Fault Refusal :=
  match unpackPlan s with
  | .error e => raise e s
  | .ok p => runCodec p s

end Sys2Proof.Machine
end

