-- ==== Sys2Proof/Machine/Control.lean ====
section
/-! DEFINITION. The control family (43_control.md). -/

namespace Sys2Proof.Machine

/-- NOP: complete with no effect (43_control.md R190). -/
def execNop (s : State) : Host.Outcome State Fault Refusal := complete s

end Sys2Proof.Machine
end

