-- ==== Sys2Proof/Machine/Dispatch.lean ====
section
/-! DEFINITION. The dispatch of a command to its meaning (30_encoding.md R82). -/

namespace Sys2Proof.Machine

def exec (i : Instr) (s : State) : Host.Outcome State Fault Refusal :=
  match i with
  | .nop => Sys2Proof.Machine.execNop s
  | .geomFile => Sys2Proof.Machine.execGeomFile s
  | .geomMem => Sys2Proof.Machine.execGeomMem s
  | .fcount => Sys2Proof.Machine.execFcount s
  | .wrframe => Sys2Proof.Machine.execWrframe s
  | .strclr => Sys2Proof.Machine.execStrclr s
  | .blkpack16le => Sys2Proof.Machine.execBlkpack16le s
  | .blkpack16be => Sys2Proof.Machine.execBlkpack16be s
  | .blkpack8 => Sys2Proof.Machine.execBlkpack8 s
  | .blkunpack16le => Sys2Proof.Machine.execBlkunpack16le s
  | .blkunpack16be => Sys2Proof.Machine.execBlkunpack16be s
  | .blkunpack8 => Sys2Proof.Machine.execBlkunpack8 s
  | .pack => Sys2Proof.Machine.execPack s
  | .unpack => Sys2Proof.Machine.execUnpack s

end Sys2Proof.Machine
end

