-- ==== Sys2Proof/Machine/Environment.lean ====
section
/-! DEFINITION. The engine's turn, and the moves of the agents around the block: the host's register bus (10_state.md
R20), reset (70_reset_and_hazards.md R230, R231), and the other accesses to host memory and the stream, each with the
treatment of its breach (R240). -/

namespace Sys2Proof.Machine

/-! ### The engine -/

/-- The engine's turn: it executes the command word in flight (30_encoding.md R81), a word that selects no command
raising ILLEGAL_COMMAND; with none in flight it waits (60_exceptions.md R201). The turn is one transition: DEDUCED, safe
(notes/assumptions/9.md). -/
def engineTurn (s : State) : Host.Outcome State Fault Refusal :=
  match s.inFlight with
  | none => .next s
  | some w =>
    match decode w with
    | .error _ => raise .illegalCommand s
    | .ok i => exec i s

/-! ### What is in flight -/

/-- The command in flight, where the word in flight selects one. -/
def runningCommand (s : State) : Option Instr :=
  match s.inFlight with
  | none => none
  | some w =>
    match decode w with
    | .error _ => none
    | .ok i => some i

/-- The windows of the planes of a frame register group, by the format code it is read with (40_geometry.md R104). -/
def windowsByCode (fr : FrameRegs) (code : Word) : List Config.Region :=
  match registry code with
  | none => []
  | some f => frameWindows fr f

/-- The SRC windows of the running command: WRFRAME reads SRC with the format CFG_FMT (41_serializer.md R130), PACK and
UNPACK with SRC_FMT (42_codec.md R170, R171). DEDUCED, safe (notes/assumptions/14.md). -/
def runningSrcWindows (s : State) : List Config.Region :=
  match runningCommand s with
  | some .wrframe => windowsByCode s.src s.cfg.fmt
  | some .pack => windowsByCode s.src s.src.fmt
  | some .unpack => windowsByCode s.src s.src.fmt
  | some .nop | some .geomFile | some .geomMem | some .fcount | some .strclr => []
  | some .blkpack16le | some .blkpack16be | some .blkpack8 => []
  | some .blkunpack16le | some .blkunpack16be | some .blkunpack8 => []
  | none => []

/-- The DST windows of the running command: PACK's and UNPACK's (10_state.md R33). -/
def runningDstWindows (s : State) : List Config.Region :=
  match runningCommand s with
  | some .pack => windowsByCode s.dst s.dst.fmt
  | some .unpack => windowsByCode s.dst s.dst.fmt
  | some .wrframe => []
  | some .nop | some .geomFile | some .geomMem | some .fcount | some .strclr => []
  | some .blkpack16le | some .blkpack16be | some .blkpack8 => []
  | some .blkunpack16le | some .blkunpack16be | some .blkunpack8 => []
  | none => []

/-- The address lies in one of the windows. -/
def inWindows (ws : List Config.Region) (a : Nat) : Bool := ws.any fun r => regionHolds r a

/-! ### Reset -/

/-- What a WRFRAME abandoned by a reset leaves: any prefix of its bytes in the stream, drawn (70_reset_and_hazards.md
R231), whatever the port and the sink answer at the reset, since they may have answered otherwise before. Of the sink's
answers it has used up those that stand for accepted bytes: DESIGN CHOICE, safe (notes/assumptions/22.md). -/
def abandonFrame (p : FramePlan) (s : State) : Host.Outcome State Fault Refusal :=
  if hitsDevice s.params.devices p.windows then .fault .deviceWindow
  else
    let k := drawnPrefix s.draws (p.bytes s.mem).length
    .next ((s.emitted ((p.bytes s.mem).take k)).withSink (s.sink.drop (min k (p.emittable s)))).drew.blockReset

/-- What a PACK or UNPACK abandoned by a reset leaves: a drawn subset of its destination bytes written
(70_reset_and_hazards.md R231). -/
def abandonCodec (p : CodecPlan) (s : State) : Host.Outcome State Fault Refusal :=
  if hitsDevice s.params.devices p.windows then .fault .deviceWindow
  else .next ((s.withMem (s.mem.writeAll (partialWrites s.draws p.cells))).drew).blockReset

/-- Reset asserted and released: an idle block takes its reset values (70_reset_and_hazards.md R230); a command in
flight is abandoned (R231). -/
def resetMove (s : State) : Host.Outcome State Fault Refusal :=
  match runningCommand s with
  | some .wrframe =>
    match wrframePlan s with
    | .error _ => .next s.blockReset
    | .ok p => abandonFrame p s
  | some .pack =>
    match packPlan s with
    | .error _ => .next s.blockReset
    | .ok p => abandonCodec p s
  | some .unpack =>
    match unpackPlan s with
    | .error _ => .next s.blockReset
    | .ok p => abandonCodec p s
  | some .nop | some .geomFile | some .geomMem | some .fcount | some .strclr => .next s.blockReset
  | some .blkpack16le | some .blkpack16be | some .blkpack8 => .next s.blockReset
  | some .blkunpack16le | some .blkunpack16be | some .blkunpack8 => .next s.blockReset
  | none => .next s.blockReset

/-! ### The register bus -/

/-- The offset of a bus address in the register window; none outside it, where the access is not the block's
(20_memory.md R60, R69). The access goes by its first byte's address: DESIGN CHOICE (notes/assumptions/18.md); what an
access that begins outside the window does is `outsideMove`. -/
def windowOffset (s : State) (addr : Nat) : Option Nat :=
  if s.params.regBase ≤ addr ∧ addr < s.params.regBase + Config.windowBytes then some (addr - s.params.regBase) else none

/-- Some byte of a bus access lies in the register window. -/
def reachesWindow (s : State) (addr bytes : Nat) : Bool :=
  decide (addr < s.params.regBase + Config.windowBytes) && decide (s.params.regBase < addr + bytes)

/-- A bus access whose first byte is not in the register window: one whose later bytes reach into it covers a part of a
register, which no rule names, and faults as a narrow access does (DESIGN CHOICE, safe, notes/assumptions/18.md); any
other is not the block's and changes nothing (DEDUCED, safe, notes/assumptions/13.md). -/
def outsideMove (addr bytes : Nat) (s : State) : Host.Outcome State Fault Refusal :=
  if reachesWindow s addr bytes then .fault .badRegisterAccess else .next s

/-- A register access is 64 bits wide at an offset that is a multiple of 8 (10_state.md R20, 20_memory.md R64). -/
def accessOK (off bytes : Nat) : Bool := decide (bytes = 8) && decide (off % 8 = 0)

/-- A host write on the register bus: a narrow or misaligned one faults, one to an unlisted offset has no effect
(10_state.md R20), one to a register while BUSY = 1 faults (70_reset_and_hazards.md R240 H1). That H1 leaves unlisted
offsets alone is DEDUCED, safe (notes/assumptions/13.md). -/
def regWriteMove (addr bytes : Nat) (v : Word) (s : State) : Host.Outcome State Fault Refusal :=
  match windowOffset s addr with
  | none => outsideMove addr bytes s
  | some off =>
    if !accessOK off bytes then .fault .badRegisterAccess
    else
      match regAt off with
      | none => .next s
      | some r => if s.busy then .fault .registerWriteWhileBusy else .next (writeReg r v s)

/-- The registers the host may read at any time: STATUS and ID (70_reset_and_hazards.md R240 H2). -/
def readableWhileBusy (r : Reg) : Bool := r == .status || r == .id

/-- A host read on the register bus: a narrow or misaligned one faults, one of an unlisted offset returns 0 (10_state.md
R20), one while BUSY = 1 of a register other than STATUS and ID returns a draw (70_reset_and_hazards.md R240 H2). -/
def regReadMove (addr bytes : Nat) (s : State) : Host.Outcome State Fault Refusal :=
  match windowOffset s addr with
  | none => outsideMove addr bytes s
  | some off =>
    if !accessOK off bytes then .fault .badRegisterAccess
    else
      match regAt off with
      | none => .next (s.withSeen (.word 0))
      | some r =>
        if s.busy && !readableWhileBusy r then .next (s.withSeen (.word (Config.drawWord s.draws))).drew
        else .next (s.withSeen (.word (readReg r s)))

/-! ### Other accesses to host memory and the stream -/

/-- A write of one byte of host memory by the host or another agent: outside the address space it faults (10_state.md
R37; notes/assumptions/16.md), into a window of the running command too (70_reset_and_hazards.md R240 H3). -/
def memWriteMove (a : Nat) (b : Byte) (s : State) : Host.Outcome State Fault Refusal :=
  if ¬a < 2 ^ s.params.addrW then .fault .noSuchAddress
  else if inWindows (runningSrcWindows s ++ runningDstWindows s) a then .fault .windowWriteWhileBusy
  else .next (s.withMem (s.mem.write a b))

/-- A read of one byte of host memory by the host: of a destination window of the running command it returns a draw
(70_reset_and_hazards.md R240 H4). -/
def memReadMove (a : Nat) (s : State) : Host.Outcome State Fault Refusal :=
  if ¬a < 2 ^ s.params.addrW then .fault .noSuchAddress
  else if inWindows (runningDstWindows s) a then .next (s.withSeen (.byte (Config.drawByte s.draws))).drew
  else .next (s.withSeen (.byte (s.mem.read a)))

/-- An append by another writer: during WRFRAME it faults (10_state.md R38, 70_reset_and_hazards.md R240 H5), during
another command it lands, where D13 of 92_eei_decisions.md and R38 differ: DESIGN CHOICE, unsafe
(notes/assumptions/19.md). STREAM_POS does not count it (10_state.md R28). -/
def streamAppendMove (bs : List Byte) (s : State) : Host.Outcome State Fault Refusal :=
  if runningCommand s = some .wrframe then .fault .streamWriteDuringFrame
  else .next (s.withStream (s.stream ++ bs))

/-- A truncation by the host (70_reset_and_hazards.md R243): during WRFRAME it faults as an append does (R240 H5,
92_eei_decisions.md D13; DEDUCED, safe, notes/assumptions/14.md), during another command it lands (DESIGN CHOICE, unsafe,
notes/assumptions/19.md). -/
def streamTruncateMove (n : Nat) (s : State) : Host.Outcome State Fault Refusal :=
  if runningCommand s = some .wrframe then .fault .streamWriteDuringFrame
  else .next (s.withStream (s.stream.take n))

/-- A read of one byte of the stream by the host: before BUSY = 0 it returns a draw (70_reset_and_hazards.md R240 H4).
The draw is a byte at every position, past the end of the stream too, where an idle block gives the end of the stream:
DESIGN CHOICE, unsafe (notes/assumptions/21.md). -/
def streamReadMove (i : Nat) (s : State) : Host.Outcome State Fault Refusal :=
  if s.busy then .next (s.withSeen (.byte (Config.drawByte s.draws))).drew
  else
    match s.stream[i]? with
    | none => .next (s.withSeen .endOfStream)
    | some b => .next (s.withSeen (.byte b))

/-- One move of an agent. -/
def move (e : Event) (s : State) : Host.Outcome State Fault Refusal :=
  match e with
  | .engine => engineTurn s
  | .reset => resetMove s
  | .regWrite addr bytes v => regWriteMove addr bytes v s
  | .regRead addr bytes => regReadMove addr bytes s
  | .memWrite a b => memWriteMove a b s
  | .memRead a => memReadMove a s
  | .streamAppend bs => streamAppendMove bs s
  | .streamTruncate n => streamTruncateMove n s
  | .streamRead i => streamReadMove i s
  | .portAnswers port => .next (s.withPort port)
  | .sinkAnswers sink => .next (s.withSink sink)

/-- The next move: the oldest pending one, else the engine's. DESIGN CHOICE, safe (notes/assumptions/15.md). -/
def nextMove (s : State) : Host.Outcome State Fault Refusal :=
  match s.events with
  | [] => engineTurn s
  | e :: rest => move e (s.withEvents rest)

/-- `s` with the command word `w` issued (10_state.md R23) and the engine to move next. -/
def issuedNext (w : Word) (s : State) : State := (s.issue w).withEvents (.engine :: s.events)

end Sys2Proof.Machine
end

