-- ==== Sys2Proof/Machine/Step.lean ====
section
/-! DEFINITION. One step of the whole machine, and how a command is placed where the next step runs it. -/

namespace Sys2Proof.Machine

/-- One step: the oldest pending move of an agent, else the engine's turn (00_scope.md R2, 92_eei_decisions.md D51). -/
def step (s : State) : Host.Outcome State Fault Refusal := nextMove s

/-- `s` with the command word of a table row issued, as a write of it to CMD does, and the engine to move next: the
block fetches nothing (20_memory.md R74), a CMD write is how an instruction comes. DEDUCED, safe (notes/assumptions/6.md). -/
def State.withFetchWord (s : State) (nbits w : Nat) : State := issuedNext (tableWord nbits w) s

end Sys2Proof.Machine
end

