-- ==== Sys2Proof/Safety.lean ====
section
/-! DEFINITION. What counts as a safe run, in the terms the statements use: the invariants of the machine, and the
duties of the host and the environment (70_reset_and_hazards.md R240). -/

namespace Sys2Proof.Machine

/-! ### Invariants -/

/-- STATUS holds one of "the combinations these rules produce" (10_state.md R24): while a command is in flight DONE is 0
and ERR is OK; an idle block that has completed no command since reset reads all 0; otherwise ERR is a code that some
command raises (60_exceptions.md R200), and IO never stands without STREAM_ERR (41_serializer.md R130). -/
def State.StatusLegal (s : State) : Prop :=
  if s.busy then s.status.done = false ∧ s.status.err = .ok
  else if s.status.done then s.status.err.produced = true ∧ (s.status.err = .io → s.status.streamErr = true)
  else s.status.err = .ok ∧ s.status.streamErr = false

/-- CTRL bits [63:1] read 0 (10_state.md R26), and BLK_OUT0..3 have every bit above a 2-byte element 0 (R34). -/
def State.ReservedBitsZero (s : State) : Prop :=
  s.ctrl.toNat ≤ 1 ∧ s.blk.out0.toNat < 2 ^ 16 ∧ s.blk.out1.toNat < 2 ^ 16 ∧ s.blk.out2.toNat < 2 ^ 16 ∧
    s.blk.out3.toNat < 2 ^ 16

/-- Host memory keeps its canonical form and lists no address outside 0 .. 2^ADDR_W - 1 (10_state.md R37). -/
def State.MemoryLegal (s : State) : Prop :=
  s.mem.wf = true ∧ ∀ c ∈ s.mem, c.1 < 2 ^ s.params.addrW

/-- One plane's geometry registers obey 40_geometry.md R109 and the bounds of R110. -/
def PlaneGeom.Legal (g : PlaneGeom) : Prop :=
  g.rowBytes.toNat ≤ g.stride.toNat ∧ g.stride.toNat * g.lines.toNat ≤ g.size.toNat ∧
    g.rowBytes.toNat ≤ 131070 ∧ g.stride.toNat < 2 ^ 18 ∧ g.size.toNat < 2 ^ 36

/-- The GEOM_* registers hold a geometry result, or the reset value: every plane legal, planes p ≥ GEOM_NPLANES reading 0
(10_state.md R31), and GEOM_FRAME the sum of the plane sizes (40_geometry.md R109). -/
def State.GeometryLegal (s : State) : Prop :=
  s.geom.p0.Legal ∧ s.geom.p1.Legal ∧ s.geom.p2.Legal ∧
    (s.geom.nplanes = 0 ∧ s.geom.p0 = PlaneGeom.zero ∧ s.geom.p1 = PlaneGeom.zero ∧ s.geom.p2 = PlaneGeom.zero ∨
      s.geom.nplanes = 2 ∧ s.geom.p2 = PlaneGeom.zero ∨ s.geom.nplanes = 3) ∧
    s.geom.frame.toNat = s.geom.p0.size.toNat + s.geom.p1.size.toNat + s.geom.p2.size.toNat

/-- The FCOUNT results are whole extents of a 64-bit length: FC_COUNT times FC_EXTENT fits a register (40_geometry.md
R120). -/
def State.FrameCountLegal (s : State) : Prop := s.fc.count.toNat * s.fc.extent.toNat < 2 ^ 64

/-- Every invariant of the machine. -/
def State.Inv (s : State) : Prop :=
  s.StatusLegal ∧ s.ReservedBitsZero ∧ s.MemoryLegal ∧ s.GeometryLegal ∧ s.FrameCountLegal

/-! ### The checks of the rules, in the rules' own terms -/

/-- ShapeOK(code, W, H), with the format of the code (40_geometry.md R106). -/
def ShapeHolds (f : Format) (code w h : Word) : Prop :=
  registry code = some f ∧ (1 ≤ w.toNat ∧ w.toNat ≤ 65535) ∧ (1 ≤ h.toNat ∧ h.toNat ≤ 65535) ∧
    ∀ o, f = .packed o → w.toNat % 4 = 0

/-- WindowOK(S, f, W, H) (40_geometry.md R104). -/
def WindowHolds (addrW : Nat) (fr : FrameRegs) (f : Format) (w h : Nat) : Prop :=
  ∀ p ∈ f.planes,
    (fr.plane p).addr ≠ 0 ∧ (fr.plane p).stride ≠ 0 ∧
    (planeLines h p = 0 ∨
      (planeLines h p - 1) * (fr.plane p).stride.toNat + rowBytes f w p ≤ (fr.plane p).len.toNat) ∧
    (fr.plane p).addr.toNat + (fr.plane p).len.toNat ≤ 2 ^ addrW

/-- The windows of two planes share no byte. -/
def PlanesApart (a b : PlaneRegs) : Prop :=
  ∀ x, ¬((a.addr.toNat ≤ x ∧ x < a.addr.toNat + a.len.toNat) ∧ (b.addr.toNat ≤ x ∧ x < b.addr.toNat + b.len.toNat))

/-- NoOverlap(fs, fd) (40_geometry.md R105). -/
def NoOverlapHolds (src dst : FrameRegs) (fs fd : Format) : Prop :=
  (∀ p ∈ fd.planes, ∀ q ∈ fd.planes, p ≠ q → PlanesApart (dst.plane p) (dst.plane q)) ∧
    ∀ p ∈ fd.planes, ∀ q ∈ fs.planes, PlanesApart (dst.plane p) (src.plane q)

/-- Everything WRFRAME checks before its first access (41_serializer.md R130). -/
def State.FrameChecks (s : State) (f : Format) : Prop :=
  s.status.streamErr = false ∧ ShapeHolds f s.cfg.fmt s.cfg.w s.cfg.h ∧
    (s.ctrl.getLsbD 0 = true → s.cfg.fmt = 1 ∨ s.cfg.fmt = 5) ∧ s.src.fmt = s.cfg.fmt ∧
    (s.src.w = 0 ∧ s.src.h = 0 ∨ s.src.w = s.cfg.w ∧ s.src.h = s.cfg.h) ∧
    WindowHolds s.params.addrW s.src f s.cfg.w.toNat s.cfg.h.toNat

/-- The bytes of the frame WRFRAME appends: the marker in marker mode, then every plane's rows (41_serializer.md R130 to
R133). -/
def State.frameOnStream (s : State) (f : Format) : List Byte :=
  (if s.ctrl.getLsbD 0 then s.params.frameMarker.toList else []) ++
    f.planes.flatMap fun p =>
      (List.range (planeLines s.cfg.h.toNat p)).flatMap fun r =>
        (List.range (rowBytes f s.cfg.w.toNat p)).map fun c =>
          s.mem.read ((s.src.plane p).addr.toNat + r * (s.src.plane p).stride.toNat + c)

/-- The frame extent E of the configuration (40_geometry.md R120). -/
def State.extentOf (s : State) (f : Format) : Nat :=
  (f.planes.map fun p => rowBytes f s.cfg.w.toNat p * planeLines s.cfg.h.toNat p).sum +
    if s.ctrl.getLsbD 0 then 6 else 0

/-- Everything PACK and UNPACK check before their first access, for two formats that make a codec pair (42_codec.md
R170, R171). -/
def State.CodecChecks (s : State) (fs fd : Format) : Prop :=
  ShapeHolds fs s.src.fmt s.src.w s.src.h ∧ ShapeHolds fd s.dst.fmt s.src.w s.src.h ∧
    s.dst.w = s.src.w ∧ s.dst.h = s.src.h ∧
    WindowHolds s.params.addrW s.src fs s.src.w.toNat s.src.h.toNat ∧
    WindowHolds s.params.addrW s.dst fd s.src.w.toNat s.src.h.toNat ∧
    NoOverlapHolds s.src s.dst fs fd

/-- No window of the frames of a PACK or UNPACK covers a device region (70_reset_and_hazards.md R240 H6). -/
def State.CodecInMemory (s : State) (fs fd : Format) : Prop :=
  hitsDevice s.params.devices (frameWindows s.src fs ++ frameWindows s.dst fd) = false

/-- Component j of a block (42_codec.md R150). -/
def Quad.at (q : Quad) (j : Nat) : Sample :=
  match j with
  | 0 => q.c0
  | 1 => q.c1
  | 2 => q.c2
  | _ => q.c3

/-- Byte i of block b of row r of plane p of a packed frame. -/
def packedByteAddr (fr : FrameRegs) (p : Plane) (r b i : Nat) : Nat :=
  (fr.plane p).addr.toNat + r * (fr.plane p).stride.toNat + 5 * b + i

/-- An element of an unpacked frame: a luma sample (column x of row r) or a chroma sample (component c of site x of
chroma row r). -/
inductive ElementAt where
  | luma (r x : Nat)
  | chroma (r x : Nat) (c : Comp)
  deriving DecidableEq, Repr

/-- The element lies in a frame of width w and height h. -/
def ElementAt.inFrame (w h : Nat) : ElementAt → Prop
  | .luma r x => r < h ∧ x < w
  | .chroma r x _ => r < h / 2 ∧ x < w / 2

/-- The place of a component in a chroma order: 0 for first(f), 1 for second(f) (42_codec.md R157). -/
def chromaPlace (o : Order) (c : Comp) : Nat :=
  match o, c with
  | .uFirst, .u => 0
  | .uFirst, .v => 1
  | .vFirst, .u => 1
  | .vFirst, .v => 0

/-- Where an element stands in an unpacked frame, as 42_codec.md R155 and R157 (b) write it: in a planar format a chroma
element is in plane 1 if it is first(g), else in plane 2, at s * ES; in a semi-planar one it is in plane 1 at
(2 * s + i) * ES. -/
def ElementAt.addr (fr : FrameRegs) (l : Layout) (k : Kind) (o : Order) : ElementAt → Nat
  | .luma r x => fr.p0.addr.toNat + r * fr.p0.stride.toNat + x * k.size
  | .chroma r x c =>
    match l, chromaPlace o c with
    | .planar, 0 => fr.p1.addr.toNat + r * fr.p1.stride.toNat + x * k.size
    | .planar, _ => fr.p2.addr.toNat + r * fr.p2.stride.toNat + x * k.size
    | .semiPlanar, i => fr.p1.addr.toNat + r * fr.p1.stride.toNat + (2 * x + i) * k.size

/-- The component of an element of the source frame (42_codec.md R151). -/
def ElementAt.sample (s : State) (l : Layout) (k : Kind) (o : Order) (e : ElementAt) : Sample :=
  sampleIn k (s.mem.read (e.addr s.src l k o)) (s.mem.read (e.addr s.src l k o + 1))

/-- The packed block that PACK puts at block b of row r of plane p: luma blocks hold columns 4b to 4b+3 (42_codec.md
R156), chroma blocks hold first and second of the packed order at sites 2b and 2b+1 (R157 (a)). -/
def packedBlockOf (s : State) (l : Layout) (k : Kind) (o od : Order) (p : Plane) (r b : Nat) : PackedBlock :=
  match p, od with
  | .p0, _ =>
    packBlock {
      c0 := (ElementAt.luma r (4 * b)).sample s l k o
      c1 := (ElementAt.luma r (4 * b + 1)).sample s l k o
      c2 := (ElementAt.luma r (4 * b + 2)).sample s l k o
      c3 := (ElementAt.luma r (4 * b + 3)).sample s l k o }
  | _, .uFirst =>
    packBlock {
      c0 := (ElementAt.chroma r (2 * b) .u).sample s l k o
      c1 := (ElementAt.chroma r (2 * b) .v).sample s l k o
      c2 := (ElementAt.chroma r (2 * b + 1) .u).sample s l k o
      c3 := (ElementAt.chroma r (2 * b + 1) .v).sample s l k o }
  | _, .vFirst =>
    packBlock {
      c0 := (ElementAt.chroma r (2 * b) .v).sample s l k o
      c1 := (ElementAt.chroma r (2 * b) .u).sample s l k o
      c2 := (ElementAt.chroma r (2 * b + 1) .v).sample s l k o
      c3 := (ElementAt.chroma r (2 * b + 1) .u).sample s l k o }

/-- The four components of the packed block at address `a` (42_codec.md R152). -/
def componentsAt (m : Memory) (a : Nat) : Quad :=
  unpackBlock (blockOfBytes (m.read a) (m.read (a + 1)) (m.read (a + 2)) (m.read (a + 3)) (m.read (a + 4)))

/-- The component that UNPACK puts at an element: component x mod 4 of luma block x / 4 (42_codec.md R156), or the first
or second of the packed order at its site (R157 (a)). -/
def ElementAt.component (s : State) (os : Order) : ElementAt → Sample
  | .luma r x =>
    (componentsAt s.mem (s.src.p0.addr.toNat + r * s.src.p0.stride.toNat + 5 * (x / 4))).at (x % 4)
  | .chroma r x c =>
    (componentsAt s.mem (s.src.p1.addr.toNat + r * s.src.p1.stride.toNat + 5 * (x / 2))).at
      (2 * (x % 2) + chromaPlace os c)

/-- The bytes of an element that holds component `c`: the rounded byte, or the 16-bit value `c` in the byte order of the
kind (42_codec.md R153, R154, R171). -/
def elementImage (k : Kind) (overflow : Config.RoundOverflow) (c : Sample) : List Byte :=
  match k with
  | .k8 => [sampleOut8 overflow c]
  | .le16 => [BitVec.ofNat 8 (c.toNat % 256), BitVec.ofNat 8 (c.toNat / 256)]
  | .be16 => [BitVec.ofNat 8 (c.toNat / 256), BitVec.ofNat 8 (c.toNat % 256)]

/-- The rows of every plane of a frame stand apart: the stride is at least the row width. -/
def RowsApart (fr : FrameRegs) (f : Format) (w : Nat) : Prop :=
  ∀ p ∈ f.planes, rowBytes f w p ≤ (fr.plane p).stride.toNat

/-- The value of a 16-bit element from its bytes (42_codec.md R151). -/
def elementValue (k : Kind) (e0 e1 : Byte) : Nat :=
  match k with
  | .k8 => e0.toNat
  | .le16 => e0.toNat + 256 * e1.toNat
  | .be16 => 256 * e0.toNat + e1.toNat

/-! ### The register map, as 10_state.md R21 writes it -/

/-- A row of the register map, with what the register holds in a state. -/
structure RegisterRow where
  offset : Nat
  reg : Reg
  access : Access
  value : Word
  deriving DecidableEq, Repr

/-- The rows 0x000 to 0x0A0 of 10_state.md R21; STATUS by its fields (R24). -/
def controlRows (s : State) : List RegisterRow :=
  [⟨0x000, .id, .ro, 0x5652415731300007#64⟩,
   ⟨0x008, .cmd, .wo, 0⟩,
   ⟨0x010, .status, .ro, BitVec.ofNat 64 (s.inFlight.isSome.toNat + 2 * s.status.done.toNat + 256 * s.status.err.code.toNat +
      65536 * s.status.streamErr.toNat)⟩,
   ⟨0x018, .ctrl, .rw, s.ctrl⟩,
   ⟨0x020, .cfgFmt, .rw, s.cfg.fmt⟩,
   ⟨0x028, .cfgW, .rw, s.cfg.w⟩,
   ⟨0x030, .cfgH, .rw, s.cfg.h⟩,
   ⟨0x038, .streamPos, .ro, s.streamPos⟩,
   ⟨0x040, .alignStride .p0, .rw, s.align.p0.stride⟩,
   ⟨0x048, .alignLines .p0, .rw, s.align.p0.lines⟩,
   ⟨0x050, .alignSize .p0, .rw, s.align.p0.size⟩,
   ⟨0x058, .alignStride .p1, .rw, s.align.p1.stride⟩,
   ⟨0x060, .alignLines .p1, .rw, s.align.p1.lines⟩,
   ⟨0x068, .alignSize .p1, .rw, s.align.p1.size⟩,
   ⟨0x070, .alignStride .p2, .rw, s.align.p2.stride⟩,
   ⟨0x078, .alignLines .p2, .rw, s.align.p2.lines⟩,
   ⟨0x080, .alignSize .p2, .rw, s.align.p2.size⟩,
   ⟨0x088, .fcLen, .rw, s.fc.len⟩,
   ⟨0x090, .fcHdr, .rw, s.fc.hdr⟩,
   ⟨0x098, .fcCount, .ro, s.fc.count⟩,
   ⟨0x0A0, .fcExtent, .ro, s.fc.extent⟩]

/-- The rows 0x0C0 to 0x128 of 10_state.md R21. -/
def geometryRows (s : State) : List RegisterRow :=
  [⟨0x0C0, .geomNPlanes, .ro, s.geom.nplanes⟩,
   ⟨0x0C8, .geomRowBytes .p0, .ro, s.geom.p0.rowBytes⟩,
   ⟨0x0D0, .geomRowBytes .p1, .ro, s.geom.p1.rowBytes⟩,
   ⟨0x0D8, .geomRowBytes .p2, .ro, s.geom.p2.rowBytes⟩,
   ⟨0x0E0, .geomLines .p0, .ro, s.geom.p0.lines⟩,
   ⟨0x0E8, .geomLines .p1, .ro, s.geom.p1.lines⟩,
   ⟨0x0F0, .geomLines .p2, .ro, s.geom.p2.lines⟩,
   ⟨0x0F8, .geomStride .p0, .ro, s.geom.p0.stride⟩,
   ⟨0x100, .geomStride .p1, .ro, s.geom.p1.stride⟩,
   ⟨0x108, .geomStride .p2, .ro, s.geom.p2.stride⟩,
   ⟨0x110, .geomSize .p0, .ro, s.geom.p0.size⟩,
   ⟨0x118, .geomSize .p1, .ro, s.geom.p1.size⟩,
   ⟨0x120, .geomSize .p2, .ro, s.geom.p2.size⟩,
   ⟨0x128, .geomFrame, .ro, s.geom.frame⟩]

/-- The rows 0x200 to 0x258 of 10_state.md R21. -/
def srcRows (s : State) : List RegisterRow :=
  [⟨0x200, .srcFmt, .rw, s.src.fmt⟩,
   ⟨0x208, .srcW, .rw, s.src.w⟩,
   ⟨0x210, .srcH, .rw, s.src.h⟩,
   ⟨0x218, .srcAddr .p0, .rw, s.src.p0.addr⟩,
   ⟨0x220, .srcAddr .p1, .rw, s.src.p1.addr⟩,
   ⟨0x228, .srcAddr .p2, .rw, s.src.p2.addr⟩,
   ⟨0x230, .srcStride .p0, .rw, s.src.p0.stride⟩,
   ⟨0x238, .srcStride .p1, .rw, s.src.p1.stride⟩,
   ⟨0x240, .srcStride .p2, .rw, s.src.p2.stride⟩,
   ⟨0x248, .srcLen .p0, .rw, s.src.p0.len⟩,
   ⟨0x250, .srcLen .p1, .rw, s.src.p1.len⟩,
   ⟨0x258, .srcLen .p2, .rw, s.src.p2.len⟩]

/-- The rows 0x300 to 0x358 of 10_state.md R21. -/
def dstRows (s : State) : List RegisterRow :=
  [⟨0x300, .dstFmt, .rw, s.dst.fmt⟩,
   ⟨0x308, .dstW, .rw, s.dst.w⟩,
   ⟨0x310, .dstH, .rw, s.dst.h⟩,
   ⟨0x318, .dstAddr .p0, .rw, s.dst.p0.addr⟩,
   ⟨0x320, .dstAddr .p1, .rw, s.dst.p1.addr⟩,
   ⟨0x328, .dstAddr .p2, .rw, s.dst.p2.addr⟩,
   ⟨0x330, .dstStride .p0, .rw, s.dst.p0.stride⟩,
   ⟨0x338, .dstStride .p1, .rw, s.dst.p1.stride⟩,
   ⟨0x340, .dstStride .p2, .rw, s.dst.p2.stride⟩,
   ⟨0x348, .dstLen .p0, .rw, s.dst.p0.len⟩,
   ⟨0x350, .dstLen .p1, .rw, s.dst.p1.len⟩,
   ⟨0x358, .dstLen .p2, .rw, s.dst.p2.len⟩]

/-- The rows 0x400 to 0x440 of 10_state.md R21. -/
def blkRows (s : State) : List RegisterRow :=
  [⟨0x400, .blkIn0, .rw, s.blk.in0⟩,
   ⟨0x408, .blkIn1, .rw, s.blk.in1⟩,
   ⟨0x410, .blkIn2, .rw, s.blk.in2⟩,
   ⟨0x418, .blkIn3, .rw, s.blk.in3⟩,
   ⟨0x420, .blkPk, .rw, s.blk.pk⟩,
   ⟨0x428, .blkOut0, .ro, s.blk.out0⟩,
   ⟨0x430, .blkOut1, .ro, s.blk.out1⟩,
   ⟨0x438, .blkOut2, .ro, s.blk.out2⟩,
   ⟨0x440, .blkOut3, .ro, s.blk.out3⟩]

/-- Every row of 10_state.md R21. -/
def registerRows (s : State) : List RegisterRow := controlRows s ++ geometryRows s ++ srcRows s ++ dstRows s ++ blkRows s

/-! ### Duties of the environment -/

/-- The memory port answers every access to these addresses with data. -/
def State.PortServes (s : State) (addrs : List Nat) : Prop := ∀ a ∈ addrs, portAnswer s.port a = .data

/-- The sink accepts the next `n` bytes. -/
def State.SinkTakes (s : State) (n : Nat) : Prop := acceptCount s.sink n = n

/-- Duties H7 and H8 of 70_reset_and_hazards.md R240: no access of the memory port and no byte offered to the sink stays
without an answer. -/
def State.Answered (s : State) : Prop := (∀ a, portAnswer s.port a ≠ .silent) ∧ ∀ x ∈ s.sink, x ≠ .silent

/-- Duty H6 of 70_reset_and_hazards.md R240, of the windows that a command in this state may touch. -/
def State.WindowsInMemory (s : State) : Prop :=
  hitsDevice s.params.devices
      [s.src.p0.window, s.src.p1.window, s.src.p2.window, s.dst.p0.window, s.dst.p1.window, s.dst.p2.window] = false

/-- Duty H6 of 70_reset_and_hazards.md R240, of the windows of the command in flight alone. -/
def State.RunningWindowsInMemory (s : State) : Prop :=
  hitsDevice s.params.devices (runningSrcWindows s ++ runningDstWindows s) = false

/-- A move that breaches no duty of 70_reset_and_hazards.md R240, as the model reads them (notes/assumptions/14.md,
16.md), and no access rule of 10_state.md R20: a bus access that begins outside the register window stays outside it
(notes/assumptions/18.md), a host memory access has an address that exists (16.md), and no truncation comes during a
WRFRAME (14.md). -/
def keepsDuties (e : Event) (s : State) : Prop :=
  match e with
  | .engine => s.RunningWindowsInMemory
  | .reset => s.RunningWindowsInMemory
  | .regWrite addr bytes _ =>
    (windowOffset s addr = none → reachesWindow s addr bytes = false) ∧
      ∀ off, windowOffset s addr = some off → accessOK off bytes = true ∧ (s.busy = true → regAt off = none)
  | .regRead addr bytes =>
    (windowOffset s addr = none → reachesWindow s addr bytes = false) ∧
      ∀ off, windowOffset s addr = some off → accessOK off bytes = true
  | .memWrite a _ => a < 2 ^ s.params.addrW ∧ inWindows (runningSrcWindows s ++ runningDstWindows s) a = false
  | .memRead a => a < 2 ^ s.params.addrW
  | .streamAppend _ => runningCommand s ≠ some .wrframe
  | .streamTruncate _ => runningCommand s ≠ some .wrframe
  | .streamRead _ => True
  | .portAnswers _ => True
  | .sinkAnswers _ => True

end Sys2Proof.Machine
end

