-- ==== Sys2Proof/Certificates/Slice0/Obligations.lean ====
section
/-! DEFINITION. The statements for the provers. Each docstring names the rule of spec/ it formalises. -/

open Sys2Proof Sys2Proof.Machine

/-! ### Words and steps -/

/-- 30_encoding.md R80 to R82: a word decodes to a command exactly when it is that command's word. -/
def Obligations.DecodeSelectsExactlyItsWord : Prop :=
  ∀ (w : Word) (i : Instr), decode w = .ok i ↔ w = encode i

/-- 30_encoding.md R82: every row of the opcode map. -/
def Obligations.OpcodeMapWordsDecode : Prop :=
  decode 0x0000000000000000#64 = .ok .nop ∧ decode 0x0000000000000001#64 = .ok .geomFile ∧
  decode 0x0000000000000002#64 = .ok .geomMem ∧ decode 0x0000000000000003#64 = .ok .fcount ∧
  decode 0x0000000000000010#64 = .ok .wrframe ∧ decode 0x0000000000000011#64 = .ok .strclr ∧
  decode 0x0000000000000020#64 = .ok .blkpack16le ∧ decode 0x0000000000000021#64 = .ok .blkpack16be ∧
  decode 0x0000000000000022#64 = .ok .blkpack8 ∧ decode 0x0000000000000028#64 = .ok .blkunpack16le ∧
  decode 0x0000000000000029#64 = .ok .blkunpack16be ∧ decode 0x000000000000002A#64 = .ok .blkunpack8 ∧
  decode 0x0000000000000030#64 = .ok .pack ∧ decode 0x0000000000000031#64 = .ok .unpack

/-- 30_encoding.md R81, R84: at the engine's turn a word in flight with RSVD = 0 and a listed opcode executes its
command; every other word raises ILLEGAL_COMMAND and changes nothing but STATUS. -/
def Obligations.WordExecutesOneCommandOrIsIllegal : Prop :=
  ∀ (s : State) (w : Word) (rows : List (Nat × Instr)),
    rows = [(0x00, .nop), (0x01, .geomFile), (0x02, .geomMem), (0x03, .fcount), (0x10, .wrframe), (0x11, .strclr),
      (0x20, .blkpack16le), (0x21, .blkpack16be), (0x22, .blkpack8), (0x28, .blkunpack16le), (0x29, .blkunpack16be),
      (0x2A, .blkunpack8), (0x30, .pack), (0x31, .unpack)] →
    s.events = [] → s.inFlight = some w →
      (∀ row ∈ rows, w.toNat / 256 = 0 → w.toNat % 256 = row.1 → step s = exec row.2 s) ∧
      ((w.toNat / 256 ≠ 0 ∨ ∀ row ∈ rows, w.toNat % 256 ≠ row.1) →
        step s = .next { s with
          inFlight := none
          status := { done := true, err := .illegalCommand, streamErr := s.status.streamErr } })

/-- The engine's turn executes the command in flight, whether no other move is pending or the turn is the oldest one
(10_state.md R23, 92_eei_decisions.md D51; the turn as one transition is the model's form, notes/assumptions/9.md). -/
def Obligations.StepRunsDecodedCommand : Prop :=
  ∀ (s : State) (w : Word) (i : Instr), s.inFlight = some w → decode w = .ok i →
    (s.events = [] → step s = exec i s) ∧
      ∀ es, s.events = .engine :: es → step s = exec i { s with events := es }

/-- A command word that `withFetchWord` places is issued (10_state.md R23) and executed by the very next step. That a
placed word stands for a CMD write is the model's form (notes/assumptions/6.md). -/
def Obligations.PlacedWordRunsNext : Prop :=
  ∀ (s : State) (i : Instr),
    step (s.withFetchWord 64 (encode i).toNat) =
      exec i { s with
        inFlight := some (encode i), status := { done := false, err := .ok, streamErr := s.status.streamErr } }

/-! ### The register bus -/

/-- 10_state.md R20 (and R26 for CTRL's reserved bits): narrow and misaligned accesses fault, unlisted offsets read 0 and
ignore writes, RO registers ignore writes, RW registers store all 64 bits and a write to one changes nothing else, and no
read changes the machine. The block is idle; the host's access is the oldest move. -/
def Obligations.RegisterBusFollowsAccessRules : Prop :=
  ∀ (s : State) (es : List Event) (off bytes : Nat) (v : Word), off < 0x448 → s.inFlight = none →
    let wr := step { s with events := .regWrite (s.params.regBase + off) bytes v :: es }
    let rd := step { s with events := .regRead (s.params.regBase + off) bytes :: es }
    let s' := { s with events := es }
    (bytes ≠ 8 ∨ off % 8 ≠ 0 → wr = .fault .badRegisterAccess ∧ rd = .fault .badRegisterAccess) ∧
    (bytes = 8 → off % 8 = 0 → regAt off = none → wr = .next s' ∧ rd = .next { s' with seen := .word 0 }) ∧
    (∀ r, bytes = 8 → regAt off = some r →
      off % 8 = 0 ∧ rd = .next { s' with seen := .word (readReg r s) } ∧
      (r.access = .ro → wr = .next s') ∧
      (r.access = .rw → ∃ t, wr = .next t ∧ readReg r t = (if r = .ctrl then v &&& 1 else v) ∧
        (∀ r', r' ≠ r → readReg r' t = readReg r' s) ∧ t.inFlight = none ∧ t.mem = s.mem ∧ t.stream = s.stream ∧
        t.params = s.params ∧ t.port = s.port ∧ t.sink = s.sink ∧ t.events = es ∧ t.seen = s.seen ∧
        t.draws = s.draws))

/-- 10_state.md R21: the offset, the access and the contents of every register, and that the map lists no other offset. -/
def Obligations.RegisterMapHasItsRows : Prop :=
  ∀ (s : State),
    (∀ row ∈ registerRows s, regAt row.offset = some row.reg ∧ row.reg.access = row.access ∧
      readReg row.reg s = row.value) ∧
    ∀ off, (∀ row ∈ registerRows s, row.offset ≠ off) → regAt off = none

/-- 10_state.md R23: a host write to CMD issues its word, doing the three STATUS updates and nothing else, while BUSY = 0,
and the engine then executes it; while BUSY = 1 it faults; CMD reads as 0. -/
def Obligations.CmdWriteIssuesTheWord : Prop :=
  ∀ (s : State) (es : List Event) (w : Word),
    let wr := step { s with events := .regWrite (s.params.regBase + 0x008) 8 w :: es }
    (s.inFlight = none →
      wr = .next { s with
        events := es, inFlight := some w
        status := { done := false, err := .ok, streamErr := s.status.streamErr } }) ∧
    (∀ i, w = encode i → es = [] → s.inFlight = none →
      ∃ t, wr = .next t ∧ step t = exec i t) ∧
    (s.inFlight ≠ none → wr = .fault .registerWriteWhileBusy) ∧ readReg .cmd s = 0

/-- 10_state.md R24: the fields of STATUS as the host reads it; ERR holds the numbers of 60_exceptions.md R200. -/
def Obligations.StatusWordHasItsFields : Prop :=
  (∀ (s : State),
    (readReg .status s).getLsbD 0 = s.inFlight.isSome ∧ (readReg .status s).getLsbD 1 = s.status.done ∧
    (readReg .status s).extractLsb' 2 6 = 0 ∧ (readReg .status s).extractLsb' 8 8 = s.status.err.code ∧
    (readReg .status s).getLsbD 16 = s.status.streamErr ∧ (readReg .status s).extractLsb' 17 47 = 0) ∧
  ErrCode.ok.code = 0 ∧ ErrCode.invalidArgument.code = 1 ∧ ErrCode.notFound.code = 2 ∧ ErrCode.protocol.code = 3 ∧
  ErrCode.exhausted.code = 4 ∧ ErrCode.unsupported.code = 5 ∧ ErrCode.io.code = 6 ∧ ErrCode.outOfMemory.code = 7 ∧
  ErrCode.illegalCommand.code = 8 ∧ ErrCode.busError.code = 9

/-- 70_reset_and_hazards.md R240 H1 and H2: while BUSY = 1 a write to any register faults; STATUS and ID read as always,
any other register reads a draw. -/
def Obligations.RegisterDutiesWhileBusy : Prop :=
  ∀ (s : State) (es : List Event) (off : Nat) (r : Reg) (v : Word), s.inFlight ≠ none → regAt off = some r →
    step { s with events := .regWrite (s.params.regBase + off) 8 v :: es } = .fault .registerWriteWhileBusy ∧
    (r = .status ∨ r = .id →
      step { s with events := .regRead (s.params.regBase + off) 8 :: es } =
        .next { s with events := es, seen := .word (readReg r s) }) ∧
    (r ≠ .status → r ≠ .id →
      step { s with events := .regRead (s.params.regBase + off) 8 :: es } =
        .next { s with events := es, seen := .word (Config.drawWord s.draws), draws := s.draws + 1 })

/-- 70_reset_and_hazards.md R240 H3, H4 and H5, with a PACK, an UNPACK or a WRFRAME in flight, whatever the format codes: a
write into a source or destination window faults, a write elsewhere lands, a read of a destination window or of the stream
is a draw, another read gives the byte, and an append to the stream faults during WRFRAME alone. Which windows a running
command has, and that a truncation counts as an append, is the model's reading (notes/assumptions/14.md); that an append or
a truncation lands during a PACK or UNPACK is its choice (notes/assumptions/19.md), and so is that a stream read past the
end draws a byte (notes/assumptions/21.md). -/
def Obligations.MemoryAndStreamDutiesWhileBusy : Prop :=
  ∀ (s : State) (es : List Event) (a : Nat) (b : Byte) (bs : List Byte) (n : Nat), a < 2 ^ s.params.addrW →
    let covered := fun (fr : FrameRegs) (code : Word) => ∃ f p, registry code = some f ∧ p ∈ f.planes ∧
      (fr.plane p).addr.toNat ≤ a ∧ a < (fr.plane p).addr.toNat + (fr.plane p).len.toNat
    let s' := { s with events := es }
    (s.inFlight = some (encode .pack) ∨ s.inFlight = some (encode .unpack) →
      (covered s.src s.src.fmt ∨ covered s.dst s.dst.fmt →
        step { s with events := .memWrite a b :: es } = .fault .windowWriteWhileBusy) ∧
      (¬covered s.src s.src.fmt → ¬covered s.dst s.dst.fmt →
        step { s with events := .memWrite a b :: es } = .next { s' with mem := s.mem.write a b }) ∧
      (covered s.dst s.dst.fmt → step { s with events := .memRead a :: es } =
        .next { s' with seen := .byte (Config.drawByte s.draws), draws := s.draws + 1 }) ∧
      (¬covered s.dst s.dst.fmt →
        step { s with events := .memRead a :: es } = .next { s' with seen := .byte (s.mem.read a) }) ∧
      step { s with events := .streamRead n :: es } =
        .next { s' with seen := .byte (Config.drawByte s.draws), draws := s.draws + 1 } ∧
      step { s with events := .streamAppend bs :: es } = .next { s' with stream := s.stream ++ bs } ∧
      step { s with events := .streamTruncate n :: es } = .next { s' with stream := s.stream.take n }) ∧
    (s.inFlight = some (encode .wrframe) →
      (covered s.src s.cfg.fmt → step { s with events := .memWrite a b :: es } = .fault .windowWriteWhileBusy) ∧
      (¬covered s.src s.cfg.fmt →
        step { s with events := .memWrite a b :: es } = .next { s' with mem := s.mem.write a b }) ∧
      step { s with events := .memRead a :: es } = .next { s' with seen := .byte (s.mem.read a) } ∧
      step { s with events := .streamRead n :: es } =
        .next { s' with seen := .byte (Config.drawByte s.draws), draws := s.draws + 1 } ∧
      step { s with events := .streamAppend bs :: es } = .fault .streamWriteDuringFrame ∧
      step { s with events := .streamTruncate n :: es } = .fault .streamWriteDuringFrame)

/-- 10_state.md R37 and R38, 70_reset_and_hazards.md R240 H4 and R243: host memory and the stream where no PACK, UNPACK or
WRFRAME is in flight, on an idle block above all: a byte written is the byte read, an address outside the address space
faults (notes/assumptions/16.md), an append and a truncation land, a read of the stream gives its byte, or a draw while
another command is in flight (notes/assumptions/14.md, 19.md, 21.md). The moves are the model's form (notes/assumptions/15.md). -/
def Obligations.MemoryAndStreamMovesOutsideFrames : Prop :=
  ∀ (s : State) (es : List Event) (a : Nat) (b : Byte) (bs : List Byte) (n : Nat),
    let s' := { s with events := es }
    (2 ^ s.params.addrW ≤ a →
      step { s with events := .memWrite a b :: es } = .fault .noSuchAddress ∧
      step { s with events := .memRead a :: es } = .fault .noSuchAddress) ∧
    (s.inFlight ≠ some (encode .pack) → s.inFlight ≠ some (encode .unpack) → s.inFlight ≠ some (encode .wrframe) →
      (a < 2 ^ s.params.addrW →
        step { s with events := .memWrite a b :: es } = .next { s' with mem := s.mem.write a b } ∧
        step { s with events := .memRead a :: es } = .next { s' with seen := .byte (s.mem.read a) }) ∧
      step { s with events := .streamAppend bs :: es } = .next { s' with stream := s.stream ++ bs } ∧
      step { s with events := .streamTruncate n :: es } = .next { s' with stream := s.stream.take n }) ∧
    (s.inFlight = none →
      (∀ c, s.stream[n]? = some c → step { s with events := .streamRead n :: es } = .next { s' with seen := .byte c }) ∧
      (s.stream.length ≤ n → step { s with events := .streamRead n :: es } = .next { s' with seen := .endOfStream })) ∧
    (s.inFlight ≠ none → step { s with events := .streamRead n :: es } =
      .next { s' with seen := .byte (Config.drawByte s.draws), draws := s.draws + 1 }) ∧
    (s.mem.wf = true → ∀ x, (s.mem.write a b).read x = if x = a then b else s.mem.read x)

/-- 70_reset_and_hazards.md R240 H6 (20_memory.md R67): a WRFRAME, a PACK or an UNPACK that passes its checks with a window
of one of its frames over a region with read side effects faults. That the check stands at the engine's turn is the model's
form (notes/assumptions/16.md). -/
def Obligations.DeviceWindowFaults : Prop :=
  ∀ (s : State) (d : Config.Region) (x : Nat), d ∈ s.params.devices → d.start ≤ x → x < d.start + d.len →
    let covered := fun (fr : FrameRegs) (f : Format) => ∃ p ∈ f.planes,
      (fr.plane p).addr.toNat ≤ x ∧ x < (fr.plane p).addr.toNat + (fr.plane p).len.toNat
    (∀ f, s.FrameChecks f → covered s.src f → exec .wrframe s = .fault .deviceWindow) ∧
    ∀ (l : Layout) (k : Kind) (o od : Order),
      (s.CodecChecks (.unpacked l k o) (.packed od) → covered s.src (.unpacked l k o) ∨ covered s.dst (.packed od) →
        exec .pack s = .fault .deviceWindow) ∧
      (s.CodecChecks (.packed od) (.unpacked l k o) → covered s.src (.packed od) ∨ covered s.dst (.unpacked l k o) →
        exec .unpack s = .fault .deviceWindow)

/-! ### Reset -/

/-- 70_reset_and_hazards.md R230: after a reset every register has its reset value and no command is in flight; a reset
of an idle block leaves host memory and the stream as they were. -/
def Obligations.ResetRestoresRegisters : Prop :=
  ∀ (s : State) (es : List Event),
    (∀ t, step { s with events := .reset :: es } = .next t →
      (∀ r, readReg r t = if r = .id then 0x5652415731300007#64 else 0) ∧ t.inFlight = none ∧
      t.status = { done := false, err := .ok, streamErr := false }) ∧
    (s.inFlight = none →
      ∃ t, step { s with events := .reset :: es } = .next t ∧ t.mem = s.mem ∧ t.stream = s.stream)

/-- 70_reset_and_hazards.md R231: a reset abandons the command in flight; a byte of memory is the old one or one that the
abandoned command writes there; the stream has grown by a prefix of the abandoned frame's bytes, and only where a WRFRAME
was in flight, a prefix whose length is drawn from all that the frame has, whatever the port and the sink answer. The
subset and the prefix are the model's draws (notes/assumptions/5.md, 9.md). -/
def Obligations.ResetAbandonsTheCommand : Prop :=
  ∀ (s t : State) (es : List Event), step { s with events := .reset :: es } = .next t →
    t.inFlight = none ∧
    (∀ a, t.mem.read a = s.mem.read a ∨
      ∃ p, ((s.inFlight = some (encode .pack) ∧ packPlan s = .ok p) ∨
        (s.inFlight = some (encode .unpack) ∧ unpackPlan s = .ok p)) ∧ (∃ b, (a, b) ∈ p.cells) ∧
        (s.mem.wf = true → (a, t.mem.read a) ∈ p.cells)) ∧
    (∃ k, t.stream = s.stream ∨
      (s.inFlight = some (encode .wrframe) ∧ ∃ f, s.FrameChecks f ∧
        t.stream = s.stream ++ (s.frameOnStream f).take k)) ∧
    ∀ f, s.inFlight = some (encode .wrframe) → s.FrameChecks f →
      t.stream = s.stream ++
        (s.frameOnStream f).take (Config.drawCount s.draws % ((s.frameOnStream f).length + 1))

/-! ### Completion -/

/-- 60_exceptions.md R201 and 70_reset_and_hazards.md R246: a command that gives a next state has either completed, with
DONE = 1, BUSY = 0 and a code that R200 says is raised, or still waits for an answer with every register, memory and the
stream as they were, which is the model's form of the wait (notes/assumptions/10.md). -/
def Obligations.CommandCompletesOrWaits : Prop :=
  ∀ (i : Instr) (s t : State), exec i s = .next t →
    (t.inFlight = none ∧ t.status.done = true ∧
      t.status.err ∈ [.ok, .invalidArgument, .protocol, .unsupported, .io, .busError]) ∨
    t = { s with draws := s.draws + 1 }

/-- 60_exceptions.md R202: an error that a command's checks raise changes nothing but STATUS. -/
def Obligations.ValidationErrorsChangeOnlyStatus : Prop :=
  ∀ (i : Instr) (s t : State), s.inFlight ≠ none → exec i s = .next t → t.inFlight = none →
    t.status.err = .invalidArgument ∨ t.status.err = .unsupported ∨ t.status.err = .protocol →
    t = { s with
      inFlight := none, status := { done := true, err := t.status.err, streamErr := s.status.streamErr } }

/-- 30_encoding.md R83 (written registers), 10_state.md R32 and R33, 20_memory.md R60: what each command may change, and
that it changes nothing else. -/
def Obligations.CommandsWriteOnlyTheirRegisters : Prop :=
  ∀ (i : Instr) (s t : State), exec i s = .next t →
    t.params = s.params ∧ t.ctrl = s.ctrl ∧ t.cfg = s.cfg ∧ t.align = s.align ∧ t.src = s.src ∧ t.dst = s.dst ∧
    t.fc.len = s.fc.len ∧ t.fc.hdr = s.fc.hdr ∧
    t.blk.in0 = s.blk.in0 ∧ t.blk.in1 = s.blk.in1 ∧ t.blk.in2 = s.blk.in2 ∧ t.blk.in3 = s.blk.in3 ∧
    (i ≠ .geomFile → i ≠ .geomMem → t.geom = s.geom) ∧ (i ≠ .fcount → t.fc = s.fc) ∧
    (i ≠ .blkpack16le → i ≠ .blkpack16be → i ≠ .blkpack8 → t.blk.pk = s.blk.pk) ∧
    (i ≠ .blkunpack16le → i ≠ .blkunpack16be → i ≠ .blkunpack8 →
      t.blk.out0 = s.blk.out0 ∧ t.blk.out1 = s.blk.out1 ∧ t.blk.out2 = s.blk.out2 ∧ t.blk.out3 = s.blk.out3) ∧
    (i ≠ .wrframe → i ≠ .strclr → t.streamPos = s.streamPos ∧ t.status.streamErr = s.status.streamErr) ∧
    (i ≠ .wrframe → t.stream = s.stream) ∧ (i ≠ .pack → i ≠ .unpack → t.mem = s.mem)

/-- 70_reset_and_hazards.md R246: if the port answers every access and the sink every byte (H7, H8), and no window covers
a device (H6), every command completes. -/
def Obligations.CommandsCompleteWhenAnswered : Prop :=
  ∀ (i : Instr) (s : State), s.Answered → s.WindowsInMemory →
    ∃ t, exec i s = .next t ∧ t.inFlight = none ∧ t.status.done = true

/-- 70_reset_and_hazards.md R246 with R240 H7 and H8: a WRFRAME of whose reads one, or of whose bytes offered to the sink
one, stays without an answer waits, and so does a PACK or an UNPACK of whose reads or writes one does, where nothing else
ends it: the command stays in flight and only the model's draw counter moves, which is the model's form of the hang
(notes/assumptions/10.md). -/
def Obligations.UnansweredAccessWaits : Prop :=
  (∀ (s : State) (f : Format), s.FrameChecks f → hitsDevice s.params.devices (frameWindows s.src f) = false →
    let reads := frameAddrs s.src f s.cfg.w.toNat s.cfg.h.toNat
    ((∀ a ∈ reads, portAnswer s.port a ≠ .error) → (∃ a ∈ reads, portAnswer s.port a = .silent) →
      (∀ x ∈ s.sink, x ≠ .refuse) → exec .wrframe s = .next { s with draws := s.draws + 1 }) ∧
    ∀ n, s.PortServes reads → n < (s.frameOnStream f).length → (∀ i, i < n → s.sink[i]? = some .accept) →
      s.sink[n]? = some .silent → exec .wrframe s = .next { s with draws := s.draws + 1 }) ∧
  (∀ (s : State) (l : Layout) (k : Kind) (o od : Order),
    (∀ a, portAnswer s.port a ≠ .error) →
    let silent := fun (fs fd : Format) =>
      ∃ a ∈ frameAddrs s.src fs s.src.w.toNat s.src.h.toNat ++ frameAddrs s.dst fd s.src.w.toNat s.src.h.toNat,
        portAnswer s.port a = .silent
    (s.CodecChecks (.unpacked l k o) (.packed od) → s.CodecInMemory (.unpacked l k o) (.packed od) →
      silent (.unpacked l k o) (.packed od) → exec .pack s = .next { s with draws := s.draws + 1 }) ∧
    (s.CodecChecks (.packed od) (.unpacked l k o) → s.CodecInMemory (.packed od) (.unpacked l k o) →
      silent (.packed od) (.unpacked l k o) → exec .unpack s = .next { s with draws := s.draws + 1 }))

/-- 43_control.md R190: NOP completes with no effect, its word is 0, and no other word with OPC 0x00 is NOP. -/
def Obligations.NopOnlyCompletes : Prop :=
  (∀ (s : State), exec .nop s = .next { s with
    inFlight := none, status := { done := true, err := .ok, streamErr := s.status.streamErr } }) ∧
  decode 0#64 = .ok .nop ∧ ∀ w : Word, w.toNat % 256 = 0 → w ≠ 0 → decode w = .error .reservedBitsSet

/-! ### Geometry -/

/-- 40_geometry.md R100 and R101: the codes that are registered, and for each the columns of the registry and its row
widths and heights. -/
def Obligations.RegisteredFormatsHaveTheirGeometry : Prop :=
  (∀ code : Word, registry code = none ↔ code.toNat = 0 ∨ 14 < code.toNat) ∧
  ∀ (n : Nat) (f : Format) (w h : Nat), n < 2 ^ 64 → registry (BitVec.ofNat 64 n) = some f →
    let es := if n ≤ 4 then 1 else 2
    planeLines h .p0 = h ∧ planeLines h .p1 = h / 2 ∧ planeLines h .p2 = h / 2 ∧
    (f.bitDepth = if n ≤ 4 then 8 else 10) ∧
    (n ∈ [1, 3, 5, 7, 9, 11, 13] → f.order = .uFirst) ∧ (n ∈ [2, 4, 6, 8, 10, 12, 14] → f.order = .vFirst) ∧
    (n ∈ [1, 2, 3, 4] → ∃ l o, f = .unpacked l .k8 o) ∧ (n ∈ [5, 6, 7, 8] → ∃ l o, f = .unpacked l .le16 o) ∧
    (n ∈ [9, 10, 11, 12] → ∃ l o, f = .unpacked l .be16 o) ∧
    (n ∈ [1, 2, 5, 6, 9, 10] → f.planes = [.p0, .p1, .p2] ∧
      rowBytes f w .p0 = w * es ∧ rowBytes f w .p1 = w / 2 * es ∧ rowBytes f w .p2 = w / 2 * es) ∧
    (n ∈ [3, 4, 7, 8, 11, 12] → f.planes = [.p0, .p1] ∧ rowBytes f w .p0 = w * es ∧ rowBytes f w .p1 = w * es) ∧
    (n ∈ [13, 14] → f.planes = [.p0, .p1] ∧ rowBytes f w .p0 = w / 4 * 5 ∧ rowBytes f w .p1 = w / 4 * 5)

/-- 00_scope.md R7: roundup(x, a) is the least multiple of a that is at least x. -/
def Obligations.RoundupIsLeastMultiple : Prop :=
  ∀ x a : Nat, 1 ≤ a → a ∣ roundup x a ∧ x ≤ roundup x a ∧ ∀ m, a ∣ m → x ≤ m → roundup x a ≤ m

/-- 40_geometry.md R111: GEOM_FILE. -/
def Obligations.GeomFileWritesFileGeometry : Prop :=
  encode .geomFile = 0x01#64 ∧
  ∀ (s : State),
    (∀ f, ShapeHolds f s.cfg.fmt s.cfg.w s.cfg.h →
      ∃ g, exec .geomFile s = .next { s with
          inFlight := none, status := { done := true, err := .ok, streamErr := s.status.streamErr }, geom := g } ∧
        (∀ p ∈ f.planes,
          (g.plane p).rowBytes.toNat = rowBytes f s.cfg.w.toNat p ∧
          (g.plane p).lines.toNat = planeLines s.cfg.h.toNat p ∧
          (g.plane p).stride.toNat = rowBytes f s.cfg.w.toNat p ∧
          (g.plane p).size.toNat = rowBytes f s.cfg.w.toNat p * planeLines s.cfg.h.toNat p) ∧
        (∀ p, p ∉ f.planes → g.plane p = { rowBytes := 0, lines := 0, stride := 0, size := 0 }) ∧
        g.nplanes.toNat = f.planes.length ∧
        g.frame.toNat = g.p0.size.toNat + g.p1.size.toNat + g.p2.size.toNat) ∧
    ((∀ f, ¬ShapeHolds f s.cfg.fmt s.cfg.w s.cfg.h) →
      exec .geomFile s = .next { s with
        inFlight := none
        status := { done := true, err := .invalidArgument, streamErr := s.status.streamErr } })

/-- 40_geometry.md R112 (with R102, R103): GEOM_MEM. -/
def Obligations.GeomMemWritesMemoryGeometry : Prop :=
  encode .geomMem = 0x02#64 ∧
  ∀ (s : State),
    let alignsFit := fun (f : Format) => ∀ p ∈ f.planes, (s.align.plane p).stride.toNat ≤ 65535 ∧
      (s.align.plane p).lines.toNat ≤ 65535 ∧ (s.align.plane p).size.toNat ≤ 65535
    (∀ f, ShapeHolds f s.cfg.fmt s.cfg.w s.cfg.h → alignsFit f →
      ∃ g, exec .geomMem s = .next { s with
          inFlight := none, status := { done := true, err := .ok, streamErr := s.status.streamErr }, geom := g } ∧
        (∀ p ∈ f.planes,
          (g.plane p).rowBytes.toNat = rowBytes f s.cfg.w.toNat p ∧
          (g.plane p).lines.toNat = planeLines s.cfg.h.toNat p ∧
          (g.plane p).stride.toNat = roundup (rowBytes f s.cfg.w.toNat p) (max 1 (s.align.plane p).stride.toNat) ∧
          (g.plane p).size.toNat =
            roundup ((g.plane p).stride.toNat *
              roundup (planeLines s.cfg.h.toNat p) (max 1 (s.align.plane p).lines.toNat))
              (max 1 (s.align.plane p).size.toNat)) ∧
        (∀ p, p ∉ f.planes → g.plane p = { rowBytes := 0, lines := 0, stride := 0, size := 0 }) ∧
        g.nplanes.toNat = f.planes.length ∧
        g.frame.toNat = g.p0.size.toNat + g.p1.size.toNat + g.p2.size.toNat) ∧
    ((∀ f, ShapeHolds f s.cfg.fmt s.cfg.w s.cfg.h → ¬alignsFit f) →
      exec .geomMem s = .next { s with
        inFlight := none
        status := { done := true, err := .invalidArgument, streamErr := s.status.streamErr } })

/-- 40_geometry.md R112, corner cases: with every alignment that it reads 0, GEOM_MEM does what GEOM_FILE does; the
alignment registers of a plane that the format lacks do not matter (R102). -/
def Obligations.GeomMemZeroAlignmentsAreFileGeometry : Prop :=
  ∀ (s : State),
    ((∀ p : Plane, s.align.plane p = { stride := 0, lines := 0, size := 0 } ∨
        ∃ f, registry s.cfg.fmt = some f ∧ p ∉ f.planes) →
      exec .geomMem s = exec .geomFile s) ∧
    (∀ (f : Format) (x : PlaneAlign) (t : State), registry s.cfg.fmt = some f → Plane.p2 ∉ f.planes →
      exec .geomMem s = .next t →
      exec .geomMem { s with align := { s.align with p2 := x } } =
        .next { t with align := { t.align with p2 := x } })

/-- The invariants and the bounds of every geometry result, and the file geometry's tight packing: what 40_geometry.md
R109 and R110 infer ("[derived: from rules R101, R103, R106 and MAX_DIM = MAX_ALIGN = 65535]"). -/
def Obligations.GeometryResultsAreBounded : Prop :=
  ∀ (f : Format) (al : AlignRegs) (w h : Nat) (p : Plane), p ∈ f.planes → 1 ≤ w → w ≤ 65535 → 1 ≤ h → h ≤ 65535 →
    (∀ q ∈ f.planes, (al.plane q).stride.toNat ≤ 65535 ∧ (al.plane q).lines.toNat ≤ 65535 ∧
      (al.plane q).size.toNat ≤ 65535) →
    rowBytes f w p ≤ (memLayout al f w h p).stride ∧
    (memLayout al f w h p).stride * planeLines h p ≤ (memLayout al f w h p).size ∧
    frameSize f (memLayout al f w h) = (f.planes.map fun q => (memLayout al f w h q).size).sum ∧
    (fileLayout f w h p).stride = rowBytes f w p ∧ (fileLayout f w h p).size = rowBytes f w p * planeLines h p ∧
    rowBytes f w p ≤ 131070 ∧ (memLayout al f w h p).stride < 2 ^ 18 ∧
    roundup (planeLines h p) (max 1 (al.plane p).lines.toNat) < 2 ^ 17 ∧
    (memLayout al f w h p).size < 2 ^ 36 ∧ frameSize f (memLayout al f w h) < 2 ^ 38

/-- 40_geometry.md R120: FCOUNT. -/
def Obligations.FcountCountsWholeExtents : Prop :=
  encode .fcount = 0x03#64 ∧
  ∀ (s : State),
    let failed := fun (e : ErrCode) => Host.Outcome.next (φ := Fault) (ρ := Refusal) { s with
      inFlight := none, status := { done := true, err := e, streamErr := s.status.streamErr } }
    ((∀ f, ¬ShapeHolds f s.cfg.fmt s.cfg.w s.cfg.h) → exec .fcount s = failed .invalidArgument) ∧
    ∀ f, ShapeHolds f s.cfg.fmt s.cfg.w s.cfg.h →
      (s.ctrl.getLsbD 0 = true → s.cfg.fmt ≠ 1 → s.cfg.fmt ≠ 5 → exec .fcount s = failed .invalidArgument) ∧
      ((s.ctrl.getLsbD 0 = true → s.cfg.fmt = 1 ∨ s.cfg.fmt = 5) →
        (s.fc.len.toNat < s.fc.hdr.toNat → exec .fcount s = failed .protocol) ∧
        (s.fc.hdr.toNat ≤ s.fc.len.toNat → ¬s.extentOf f ∣ s.fc.len.toNat - s.fc.hdr.toNat →
          exec .fcount s = failed .protocol) ∧
        (s.fc.hdr.toNat ≤ s.fc.len.toNat → s.extentOf f ∣ s.fc.len.toNat - s.fc.hdr.toNat →
          ∃ e n, exec .fcount s = .next { s with
              inFlight := none, status := { done := true, err := .ok, streamErr := s.status.streamErr }
              fc := { s.fc with extent := e, count := n } } ∧
            e.toNat = s.extentOf f ∧ n.toNat * s.extentOf f = s.fc.len.toNat - s.fc.hdr.toNat))

/-! ### Serializer -/

/-- 41_serializer.md R130 to R133: a WRFRAME that passes its checks, with a port and a sink that serve it, appends the
marker in marker mode and then every plane's rows, and counts the bytes in STREAM_POS. -/
def Obligations.WrframeAppendsTheFrame : Prop :=
  ∀ (s : State) (f : Format), s.FrameChecks f → hitsDevice s.params.devices (frameWindows s.src f) = false →
    s.PortServes (frameAddrs s.src f s.cfg.w.toNat s.cfg.h.toNat) → s.SinkTakes (s.frameOnStream f).length →
    ∃ pos, exec .wrframe s = .next { s with
        inFlight := none, status := { done := true, err := .ok, streamErr := false }
        stream := s.stream ++ s.frameOnStream f, streamPos := pos
        sink := s.sink.drop (s.frameOnStream f).length } ∧
      (s.streamPos.toNat + (s.frameOnStream f).length < 2 ^ 64 →
        pos.toNat = s.streamPos.toNat + (s.frameOnStream f).length)

/-- 41_serializer.md R130 and 60_exceptions.md R203: WRFRAME with STREAM_ERR set fails with IO; one that fails any other
check fails with INVALID_ARGUMENT; nothing is emitted. -/
def Obligations.WrframeRefusesBadFrames : Prop :=
  ∀ (s : State),
    (s.status.streamErr = true →
      exec .wrframe s = .next { s with inFlight := none, status := { done := true, err := .io, streamErr := true } }) ∧
    (s.status.streamErr = false → (∀ f, ¬s.FrameChecks f) →
      exec .wrframe s = .next { s with
        inFlight := none, status := { done := true, err := .invalidArgument, streamErr := false } })

/-- 41_serializer.md R134: where the sink refuses byte n of the frame, the n bytes before it stay in the stream, the
command ends with IO and STREAM_ERR becomes 1. -/
def Obligations.SinkRefusalTruncatesTheFrame : Prop :=
  ∀ (s : State) (f : Format) (n : Nat), s.FrameChecks f →
    hitsDevice s.params.devices (frameWindows s.src f) = false →
    s.PortServes (frameAddrs s.src f s.cfg.w.toNat s.cfg.h.toNat) → n < (s.frameOnStream f).length →
    (∀ i, i < n → s.sink[i]? = some .accept) → s.sink[n]? = some .refuse →
    ∃ pos, exec .wrframe s = .next { s with
        inFlight := none, status := { done := true, err := .io, streamErr := true }
        stream := s.stream ++ (s.frameOnStream f).take n, streamPos := pos
        sink := s.sink.drop (n + 1), draws := s.draws + 1 } ∧
      (s.streamPos.toNat + n < 2 ^ 64 → pos.toNat = s.streamPos.toNat + n)

/-- 41_serializer.md R130 and R136: where the port answers a read of the frame with an error and the sink accepts every
byte offered, a prefix of the bytes before that read is in the stream, the command ends with BUS_ERROR, and STREAM_ERR is
set exactly if a byte was emitted. The length is the model's draw (notes/assumptions/9.md); its bound by the first failing
address rests on an address answering every access of one command the same way (notes/assumptions/4.md). -/
def Obligations.BusErrorLeavesAPrefix : Prop :=
  ∀ (s : State) (f : Format) (marker : Nat), s.FrameChecks f →
    hitsDevice s.params.devices (frameWindows s.src f) = false →
    marker = (if s.ctrl.getLsbD 0 then 6 else 0) →
    (∀ a ∈ frameAddrs s.src f s.cfg.w.toNat s.cfg.h.toNat, portAnswer s.port a ≠ .silent) →
    (∃ a ∈ frameAddrs s.src f s.cfg.w.toNat s.cfg.h.toNat, portAnswer s.port a = .error) → (∀ x ∈ s.sink, x = .accept) →
    ∃ k pos, (∀ (j a : Nat), (frameAddrs s.src f s.cfg.w.toNat s.cfg.h.toNat)[j]? = some a →
        portAnswer s.port a = .error → k ≤ marker + j) ∧
      exec .wrframe s = .next { s with
        inFlight := none, status := { done := true, err := .busError, streamErr := decide (0 < k) }
        stream := s.stream ++ (s.frameOnStream f).take k, streamPos := pos
        sink := s.sink.drop k, draws := s.draws + 1 } ∧
      (s.streamPos.toNat + k < 2 ^ 64 → pos.toNat = s.streamPos.toNat + k)

/-- k successful WRFRAMEs grow the stream by k extents, and FCOUNT of a stream of that length after a header of O bytes
counts k frames of that extent: what 41_serializer.md R135 infers ("[derived: from rules R130, R132, R133 and
40_geometry.md rules R109, R120]"). -/
def Obligations.SuccessfulFramesMatchFrameCount : Prop :=
  ∀ (k hdr : Nat) (run : Nat → State) (f : Format),
    registry (run 0).cfg.fmt = some f →
    (∀ n, n < k → exec .wrframe ((run n).issue (encode .wrframe)) = .next (run (n + 1)) ∧
      (run (n + 1)).inFlight = none ∧ (run (n + 1)).status.err = .ok) →
    (run k).stream.length = (run 0).stream.length + k * (run 0).extentOf f ∧
    (1 ≤ k → hdr + k * (run 0).extentOf f < 2 ^ 64 →
      ∃ t, exec .fcount { run k with fc := { (run k).fc with
          hdr := BitVec.ofNat 64 hdr, len := BitVec.ofNat 64 (hdr + k * (run 0).extentOf f) } } = .next t ∧
        t.status.err = .ok ∧ t.fc.extent.toNat = (run 0).extentOf f ∧ t.fc.count.toNat = k)

/-- 41_serializer.md R140: STRCLR. -/
def Obligations.StrclrClearsTheStreamError : Prop :=
  encode .strclr = 0x11#64 ∧
  ∀ (s : State), exec .strclr s = .next { s with
    inFlight := none, status := { done := true, err := .ok, streamErr := false }, streamPos := 0 }

/-- 10_state.md R36, 60_exceptions.md R204: no step but a reset or a STRCLR clears STREAM_ERR. -/
def Obligations.StreamErrorIsSticky : Prop :=
  ∀ (s t : State), step s = .next t → s.status.streamErr = true →
    t.status.streamErr = true ∨ s.events.head? = some .reset ∨
      ((s.events = [] ∨ s.events.head? = some .engine) ∧ s.inFlight = some (encode .strclr))

/-- 10_state.md R38, 20_memory.md R60: no step removes or changes a byte of the stream but the host's truncation. -/
def Obligations.StreamIsAppendOnly : Prop :=
  ∀ (s t : State), step s = .next t → (∀ n, s.events.head? ≠ some (.streamTruncate n)) → s.stream <+: t.stream

/-- 10_state.md R28: a command other than STRCLR adds to STREAM_POS the number of bytes it appended, where the sum fits
the register; past it the model's value is free (notes/assumptions/8.md). -/
def Obligations.StreamPosCountsAcceptedBytes : Prop :=
  ∀ (i : Instr) (s t : State), exec i s = .next t → i ≠ .strclr →
    s.streamPos.toNat + (t.stream.length - s.stream.length) < 2 ^ 64 →
    t.streamPos.toNat = s.streamPos.toNat + (t.stream.length - s.stream.length)

/-- 41_serializer.md R136: WRFRAME reads no DST register and writes none. -/
def Obligations.WrframeIgnoresDestination : Prop :=
  ∀ (s t : State) (d : FrameRegs), exec .wrframe s = .next t →
    exec .wrframe { s with dst := d } = .next { t with dst := d } ∧ t.dst = s.dst

/-! ### Block codec -/

/-- The laws of the block functions that 42_codec.md R158 (a) to (e) infers ("[derived: from rules R150-R154]"). -/
def Obligations.BlockFunctionLaws : Prop :=
  (∀ q : Quad, unpackBlock (blockOfBytes (blockByte (packBlock q) 0) (blockByte (packBlock q) 1)
    (blockByte (packBlock q) 2) (blockByte (packBlock q) 3) (blockByte (packBlock q) 4)) = q) ∧
  (∀ b0 b1 b2 b3 b4 : Byte, blockBytes (packBlock (unpackBlock (blockOfBytes b0 b1 b2 b3 b4))) = [b0, b1, b2, b3, b4]) ∧
  (∀ c : Sample, sampleIn .le16 (sampleOut16 c 0).1 (sampleOut16 c 0).2 = c ∧
    sampleIn .be16 (sampleOut16 c 1).1 (sampleOut16 c 1).2 = c) ∧
  (∀ (o : Config.RoundOverflow) (v x : Byte), sampleOut8 o (sampleIn .k8 v x) = v) ∧
  (∀ (o : Config.RoundOverflow) (c : Sample) (x : Byte), c.toNat ≤ 1021 →
    (sampleIn .k8 (sampleOut8 o c) x).toNat = 4 * ((c.toNat + 2) / 4) ∧
    (c.toNat % 4 ≠ 0 → sampleIn .k8 (sampleOut8 o c) x ≠ c))

/-- 42_codec.md R150 and R152: the 40-bit value of a block, its bytes, and its components, as numbers and bit by bit. -/
def Obligations.PackedBlockLayout : Prop :=
  (∀ q : Quad, (packBlock q).toNat = q.c0.toNat + q.c1.toNat * 2 ^ 10 + q.c2.toNat * 2 ^ 20 + q.c3.toNat * 2 ^ 30 ∧
    ∀ i, i < 40 → (packBlock q).getLsbD i = (q.at (i / 10)).getLsbD (i % 10)) ∧
  (∀ (p : PackedBlock) (k : Nat), k < 5 →
    (blockBytes p)[k]? = some (blockByte p k) ∧ (blockByte p k).toNat = p.toNat / 2 ^ (8 * k) % 256) ∧
  (∀ b0 b1 b2 b3 b4 : Byte, (blockOfBytes b0 b1 b2 b3 b4).toNat =
    b0.toNat + b1.toNat * 2 ^ 8 + b2.toNat * 2 ^ 16 + b3.toNat * 2 ^ 24 + b4.toNat * 2 ^ 32) ∧
  ∀ (p : PackedBlock) (i : Nat), i < 4 → ((unpackBlock p).at i).toNat = p.toNat / 2 ^ (10 * i) % 1024

/-- 42_codec.md R151 (under `mask`), R153 and R154: the conversions of a sample, as numbers. -/
def Obligations.SampleConversions : Prop :=
  (∀ e0 e1 : Byte, (sampleIn .le16 e0 e1).toNat = (e0.toNat + 256 * e1.toNat) % 1024 ∧
    (sampleIn .be16 e0 e1).toNat = (256 * e0.toNat + e1.toNat) % 1024 ∧ (sampleIn .k8 e0 e1).toNat = e0.toNat * 4) ∧
  (∀ c : Sample, (sampleOut16 c 0).1.toNat = c.toNat % 256 ∧ (sampleOut16 c 0).2.toNat = c.toNat / 256 ∧
    (sampleOut16 c 1).2.toNat = c.toNat % 256 ∧ (sampleOut16 c 1).1.toNat = c.toNat / 256) ∧
  (∀ (c : Sample) (o : Config.RoundOverflow), ((c.toNat + 2) / 4 ≤ 255 → (sampleOut8 o c).toNat = (c.toNat + 2) / 4) ∧
    (255 < (c.toNat + 2) / 4 → (c = 1022 ∨ c = 1023) ∧ sampleOut8 .wrap c = 0 ∧ sampleOut8 .saturate c = 255))

/-- 42_codec.md R161: BLKPACK.16LE. -/
def Obligations.Blkpack16LeResult : Prop :=
  encode .blkpack16le = 0x20#64 ∧
  ∀ (s : State), ∃ v, exec .blkpack16le s = .next { s with
      inFlight := none, status := { done := true, err := .ok, streamErr := s.status.streamErr }
      blk := { s.blk with pk := v } } ∧
    v.toNat = s.blk.in0.toNat % 1024 + s.blk.in1.toNat % 1024 * 2 ^ 10 + s.blk.in2.toNat % 1024 * 2 ^ 20 +
      s.blk.in3.toNat % 1024 * 2 ^ 30

/-- 42_codec.md R162: BLKPACK.16BE; component k is BLK_INk[1:0] above BLK_INk[15:8]. -/
def Obligations.Blkpack16BeResult : Prop :=
  encode .blkpack16be = 0x21#64 ∧
  ∀ (s : State), ∃ v, exec .blkpack16be s = .next { s with
      inFlight := none, status := { done := true, err := .ok, streamErr := s.status.streamErr }
      blk := { s.blk with pk := v } } ∧
    let c := fun (x : Word) => x.toNat % 4 * 256 + x.toNat / 256 % 256
    v.toNat = c s.blk.in0 + c s.blk.in1 * 2 ^ 10 + c s.blk.in2 * 2 ^ 20 + c s.blk.in3 * 2 ^ 30

/-- 42_codec.md R163: BLKPACK.8. -/
def Obligations.Blkpack8Result : Prop :=
  encode .blkpack8 = 0x22#64 ∧
  ∀ (s : State), ∃ v, exec .blkpack8 s = .next { s with
      inFlight := none, status := { done := true, err := .ok, streamErr := s.status.streamErr }
      blk := { s.blk with pk := v } } ∧
    v.toNat = s.blk.in0.toNat % 256 * 4 + s.blk.in1.toNat % 256 * 4 * 2 ^ 10 + s.blk.in2.toNat % 256 * 4 * 2 ^ 20 +
      s.blk.in3.toNat % 256 * 4 * 2 ^ 30

/-- 42_codec.md R164: BLKUNPACK.16LE. -/
def Obligations.Blkunpack16LeResult : Prop :=
  encode .blkunpack16le = 0x28#64 ∧
  ∀ (s : State), ∃ v0 v1 v2 v3, exec .blkunpack16le s = .next { s with
      inFlight := none, status := { done := true, err := .ok, streamErr := s.status.streamErr }
      blk := { s.blk with out0 := v0, out1 := v1, out2 := v2, out3 := v3 } } ∧
    v0.toNat = s.blk.pk.toNat % 1024 ∧ v1.toNat = s.blk.pk.toNat / 2 ^ 10 % 1024 ∧
    v2.toNat = s.blk.pk.toNat / 2 ^ 20 % 1024 ∧ v3.toNat = s.blk.pk.toNat / 2 ^ 30 % 1024

/-- 42_codec.md R165: BLKUNPACK.16BE; BLK_OUTk is c[7:0] above six zero bits above c[9:8]. -/
def Obligations.Blkunpack16BeResult : Prop :=
  encode .blkunpack16be = 0x29#64 ∧
  ∀ (s : State), ∃ v0 v1 v2 v3, exec .blkunpack16be s = .next { s with
      inFlight := none, status := { done := true, err := .ok, streamErr := s.status.streamErr }
      blk := { s.blk with out0 := v0, out1 := v1, out2 := v2, out3 := v3 } } ∧
    let swapped := fun (c : Nat) => c % 256 * 256 + c / 256
    v0.toNat = swapped (s.blk.pk.toNat % 1024) ∧ v1.toNat = swapped (s.blk.pk.toNat / 2 ^ 10 % 1024) ∧
    v2.toNat = swapped (s.blk.pk.toNat / 2 ^ 20 % 1024) ∧ v3.toNat = swapped (s.blk.pk.toNat / 2 ^ 30 % 1024)

/-- 42_codec.md R166 (with R154): BLKUNPACK.8, for each value of the OPEN parameter. -/
def Obligations.Blkunpack8Result : Prop :=
  encode .blkunpack8 = 0x2A#64 ∧
  ∀ (s : State), ∃ v0 v1 v2 v3, exec .blkunpack8 s = .next { s with
      inFlight := none, status := { done := true, err := .ok, streamErr := s.status.streamErr }
      blk := { s.blk with out0 := v0, out1 := v1, out2 := v2, out3 := v3 } } ∧
    let rounded := fun (c : Nat) =>
      if (c + 2) / 4 ≤ 255 then (c + 2) / 4 else if s.params.u8RoundOverflow = .wrap then 0 else 255
    v0.toNat = rounded (s.blk.pk.toNat % 1024) ∧ v1.toNat = rounded (s.blk.pk.toNat / 2 ^ 10 % 1024) ∧
    v2.toNat = rounded (s.blk.pk.toNat / 2 ^ 20 % 1024) ∧ v3.toNat = rounded (s.blk.pk.toNat / 2 ^ 30 % 1024)

/-! ### Frame codec -/

/-- 42_codec.md R170 (with R155 to R157): a PACK that passes its checks, with a port that serves it, completes with OK;
no byte outside the destination rows changes; every destination byte holds a byte that some block puts there, and where
the destination rows stand apart exactly the byte of its block. Where rows overlap, which byte stays is the model's draw
(notes/assumptions/7.md). -/
def Obligations.PackWritesThePackedFrame : Prop :=
  ∀ (s : State) (l : Layout) (k : Kind) (o od : Order), s.CodecChecks (.unpacked l k o) (.packed od) →
    s.CodecInMemory (.unpacked l k o) (.packed od) → s.mem.wf = true →
    s.PortServes (frameAddrs s.src (.unpacked l k o) s.src.w.toNat s.src.h.toNat ++
      frameAddrs s.dst (.packed od) s.src.w.toNat s.src.h.toNat) →
    let target := fun (p : Plane) (r b i : Nat) =>
      p ∈ [Plane.p0, .p1] ∧ r < planeLines s.src.h.toNat p ∧ b < s.src.w.toNat / 4 ∧ i < 5
    ∃ m, exec .pack s = .next { s with
        inFlight := none, status := { done := true, err := .ok, streamErr := s.status.streamErr }
        mem := m, draws := s.draws + 1 } ∧
      (∀ a, (∀ p r b i, target p r b i → packedByteAddr s.dst p r b i ≠ a) → m.read a = s.mem.read a) ∧
      (∀ p r b i, target p r b i → ∃ p' r' b' i', target p' r' b' i' ∧
        packedByteAddr s.dst p' r' b' i' = packedByteAddr s.dst p r b i ∧
        m.read (packedByteAddr s.dst p r b i) = blockByte (packedBlockOf s l k o od p' r' b') i') ∧
      (RowsApart s.dst (.packed od) s.src.w.toNat → ∀ p r b i, target p r b i →
        m.read (packedByteAddr s.dst p r b i) = blockByte (packedBlockOf s l k o od p r b) i)

/-- 42_codec.md R171 (with R155 to R157): an UNPACK that passes its checks, with a port that serves it, completes with OK;
no byte outside the destination elements changes; every destination byte holds a byte that some element puts there, and
where the destination rows stand apart exactly the byte of its element. Where rows overlap, which byte stays is the
model's draw (notes/assumptions/7.md). -/
def Obligations.UnpackWritesTheUnpackedFrame : Prop :=
  ∀ (s : State) (l : Layout) (k : Kind) (o os : Order), s.CodecChecks (.packed os) (.unpacked l k o) →
    s.CodecInMemory (.packed os) (.unpacked l k o) → s.mem.wf = true →
    s.PortServes (frameAddrs s.src (.packed os) s.src.w.toNat s.src.h.toNat ++
      frameAddrs s.dst (.unpacked l k o) s.src.w.toNat s.src.h.toNat) →
    let target := fun (e : ElementAt) (i : Nat) => e.inFrame s.src.w.toNat s.src.h.toNat ∧ i < k.size
    let out := fun (e : ElementAt) => elementImage k s.params.u8RoundOverflow (e.component s os)
    ∃ m, exec .unpack s = .next { s with
        inFlight := none, status := { done := true, err := .ok, streamErr := s.status.streamErr }
        mem := m, draws := s.draws + 1 } ∧
      (∀ a, (∀ e i, target e i → e.addr s.dst l k o + i ≠ a) → m.read a = s.mem.read a) ∧
      (∀ e i, target e i → ∃ e' i', target e' i' ∧ e'.addr s.dst l k o + i' = e.addr s.dst l k o + i ∧
        (out e')[i']? = some (m.read (e.addr s.dst l k o + i))) ∧
      (RowsApart s.dst (.unpacked l k o) s.src.w.toNat → ∀ e i, target e i →
        (out e)[i]? = some (m.read (e.addr s.dst l k o + i)))

/-- 42_codec.md R160, R170, R171 and 60_exceptions.md R203: the errors of PACK and UNPACK, in order, with nothing
written. -/
def Obligations.CodecRefusesBadFrames : Prop :=
  ∀ (s : State),
    let failed := fun (e : ErrCode) => Host.Outcome.next (φ := Fault) (ρ := Refusal) { s with
      inFlight := none, status := { done := true, err := e, streamErr := s.status.streamErr } }
    let n := s.src.fmt.toNat
    let m := s.dst.fmt.toNat
    (¬(1 ≤ n ∧ n ≤ 14) ∨ ¬(1 ≤ m ∧ m ≤ 14) →
      exec .pack s = failed .invalidArgument ∧ exec .unpack s = failed .invalidArgument) ∧
    ((1 ≤ n ∧ n ≤ 14) → (1 ≤ m ∧ m ≤ 14) → ¬(n ≤ 12 ∧ 13 ≤ m) → exec .pack s = failed .unsupported) ∧
    ((1 ≤ n ∧ n ≤ 14) → (1 ≤ m ∧ m ≤ 14) → ¬(13 ≤ n ∧ m ≤ 12) → exec .unpack s = failed .unsupported) ∧
    ((1 ≤ n ∧ n ≤ 12) → (13 ≤ m ∧ m ≤ 14) → (∀ fs fd, ¬s.CodecChecks fs fd) →
      exec .pack s = failed .invalidArgument) ∧
    ((13 ≤ n ∧ n ≤ 14) → (1 ≤ m ∧ m ≤ 12) → (∀ fs fd, ¬s.CodecChecks fs fd) →
      exec .unpack s = failed .invalidArgument)

/-- 42_codec.md R172 and 60_exceptions.md R202: where the port answers an access of a PACK or UNPACK with an error, the
command ends with BUS_ERROR, and every byte of memory is the old one or one that the command writes there. The subset is
the model's draw (notes/assumptions/11.md). -/
def Obligations.CodecBusErrorLeavesASubset : Prop :=
  ∀ (i : Instr) (s : State) (p : CodecPlan),
    (i = .pack ∧ packPlan s = .ok p) ∨ (i = .unpack ∧ unpackPlan s = .ok p) →
    hitsDevice s.params.devices p.windows = false → s.mem.wf = true →
    (∀ a ∈ p.touched, portAnswer s.port a ≠ .silent) → (∃ a ∈ p.touched, portAnswer s.port a = .error) →
    ∃ m, exec i s = .next { s with
        inFlight := none, status := { done := true, err := .busError, streamErr := s.status.streamErr }
        mem := m, draws := s.draws + 1 } ∧
      ∀ a, m.read a = s.mem.read a ∨ (a, m.read a) ∈ p.cells

/-- What 42_codec.md R173 infers ("[derived: from rules R157, R158, R170, R171]"): a successful PACK of a frame whose
16-bit values are at most 1023, followed by a successful UNPACK of the packed frame into a frame of the same format,
restores every byte inside the rows' logical widths. The rows of both destination frames stand apart, without which a byte
can be written twice (notes/assumptions/7.md). -/
def Obligations.PackThenUnpackRestoresTheFrame : Prop :=
  ∀ (s t u v : State) (l : Layout) (k : Kind) (o od : Order),
    registry s.src.fmt = some (.unpacked l k o) → registry s.dst.fmt = some (.packed od) → s.mem.wf = true →
    (∀ e : ElementAt, e.inFrame s.src.w.toNat s.src.h.toNat → k ≠ .k8 →
      elementValue k (s.mem.read (e.addr s.src l k o)) (s.mem.read (e.addr s.src l k o + 1)) ≤ 1023) →
    RowsApart s.dst (.packed od) s.src.w.toNat →
    s.inFlight ≠ none → exec .pack s = .next t → t.inFlight = none → t.status.err = .ok →
    u.mem = t.mem → u.src = t.dst → u.dst.fmt = s.src.fmt → RowsApart u.dst (.unpacked l k o) s.src.w.toNat →
    u.inFlight ≠ none → exec .unpack u = .next v → v.inFlight = none → v.status.err = .ok →
    ∀ p ∈ (Format.unpacked l k o).planes, ∀ r, r < planeLines s.src.h.toNat p →
      ∀ c, c < rowBytes (.unpacked l k o) s.src.w.toNat p →
        v.mem.read ((u.dst.plane p).addr.toNat + r * (u.dst.plane p).stride.toNat + c) =
          s.mem.read ((s.src.plane p).addr.toNat + r * (s.src.plane p).stride.toNat + c)

/-! ### Invariants and safety -/

/-- A machine whose next move keeps the duties takes that step: the duties of 70_reset_and_hazards.md R240 and the access
rule of 10_state.md R20 as the model reads them, with host memory addresses below 2^ADDR_W and the windows of the command
in flight alone off the devices (notes/assumptions/16.md), no truncation during WRFRAME (notes/assumptions/14.md) and no
bus access that reaches into the register window from below (notes/assumptions/18.md). The moves are the model's form of
the agents (notes/assumptions/15.md). -/
def Obligations.KeptDutiesNeverStop : Prop :=
  ∀ (s : State),
    (s.events = [] → keepsDuties .engine s → ∃ t, step s = .next t) ∧
    ∀ e es, s.events = e :: es → keepsDuties e { s with events := es } → ∃ t, step s = .next t

/-- The machine after reset meets every invariant. Memory and the stream have the contents the model chose
(notes/assumptions/1.md, 3.md). -/
def Obligations.ResetMeetsInvariants : Prop := State.reset.Inv

/-- 10_state.md R24: STATUS keeps one of the combinations the rules produce. -/
def Obligations.StepKeepsStatusLegal : Prop := ∀ (s t : State), s.StatusLegal → step s = .next t → t.StatusLegal

/-- 10_state.md R26 and R34: the reserved bits of CTRL and the bits of BLK_OUT0..3 above an element stay 0. -/
def Obligations.StepKeepsReservedBitsZero : Prop :=
  ∀ (s t : State), s.ReservedBitsZero → step s = .next t → t.ReservedBitsZero

/-- 10_state.md R37: host memory keeps its canonical form and lists no address outside the address space. -/
def Obligations.StepKeepsMemoryLegal : Prop :=
  ∀ (s t : State), s.MemoryLegal → step s = .next t → t.MemoryLegal ∧ t.params = s.params

/-- 10_state.md R31, 40_geometry.md R103, R106, R111, R112 and R120: the geometry and frame-count registers stay a result,
within the bounds that R109 and R110 infer. -/
def Obligations.StepKeepsResultsLegal : Prop :=
  ∀ (s t : State), s.GeometryLegal ∧ s.FrameCountLegal → step s = .next t → t.GeometryLegal ∧ t.FrameCountLegal
end

