-- ==== Sys2Proof/Laws/State.lean ====
section
/-! SUPPORT. One lemma per field per update of the state, each true by `rfl`, so that no later proof unfolds a record
update. -/

namespace Sys2Proof.Machine

/-! ### State.drew -/

@[simp] theorem State.drew_params (s : State) : (State.drew s).params = s.params := rfl
@[simp] theorem State.drew_inFlight (s : State) : (State.drew s).inFlight = s.inFlight := rfl
@[simp] theorem State.drew_status (s : State) : (State.drew s).status = s.status := rfl
@[simp] theorem State.drew_ctrl (s : State) : (State.drew s).ctrl = s.ctrl := rfl
@[simp] theorem State.drew_cfg (s : State) : (State.drew s).cfg = s.cfg := rfl
@[simp] theorem State.drew_streamPos (s : State) : (State.drew s).streamPos = s.streamPos := rfl
@[simp] theorem State.drew_align (s : State) : (State.drew s).align = s.align := rfl
@[simp] theorem State.drew_fc (s : State) : (State.drew s).fc = s.fc := rfl
@[simp] theorem State.drew_geom (s : State) : (State.drew s).geom = s.geom := rfl
@[simp] theorem State.drew_src (s : State) : (State.drew s).src = s.src := rfl
@[simp] theorem State.drew_dst (s : State) : (State.drew s).dst = s.dst := rfl
@[simp] theorem State.drew_blk (s : State) : (State.drew s).blk = s.blk := rfl
@[simp] theorem State.drew_mem (s : State) : (State.drew s).mem = s.mem := rfl
@[simp] theorem State.drew_stream (s : State) : (State.drew s).stream = s.stream := rfl
@[simp] theorem State.drew_port (s : State) : (State.drew s).port = s.port := rfl
@[simp] theorem State.drew_sink (s : State) : (State.drew s).sink = s.sink := rfl
@[simp] theorem State.drew_events (s : State) : (State.drew s).events = s.events := rfl
@[simp] theorem State.drew_seen (s : State) : (State.drew s).seen = s.seen := rfl
@[simp] theorem State.drew_draws (s : State) : (State.drew s).draws = s.draws + 1 := rfl
@[simp] theorem State.drew_busy (s : State) : (State.drew s).busy = s.busy := rfl

/-! ### State.withGeom -/

@[simp] theorem State.withGeom_params (g : GeomRegs) (s : State) : (State.withGeom g s).params = s.params := rfl
@[simp] theorem State.withGeom_inFlight (g : GeomRegs) (s : State) : (State.withGeom g s).inFlight = s.inFlight := rfl
@[simp] theorem State.withGeom_status (g : GeomRegs) (s : State) : (State.withGeom g s).status = s.status := rfl
@[simp] theorem State.withGeom_ctrl (g : GeomRegs) (s : State) : (State.withGeom g s).ctrl = s.ctrl := rfl
@[simp] theorem State.withGeom_cfg (g : GeomRegs) (s : State) : (State.withGeom g s).cfg = s.cfg := rfl
@[simp] theorem State.withGeom_streamPos (g : GeomRegs) (s : State) : (State.withGeom g s).streamPos = s.streamPos := rfl
@[simp] theorem State.withGeom_align (g : GeomRegs) (s : State) : (State.withGeom g s).align = s.align := rfl
@[simp] theorem State.withGeom_fc (g : GeomRegs) (s : State) : (State.withGeom g s).fc = s.fc := rfl
@[simp] theorem State.withGeom_geom (g : GeomRegs) (s : State) : (State.withGeom g s).geom = g := rfl
@[simp] theorem State.withGeom_src (g : GeomRegs) (s : State) : (State.withGeom g s).src = s.src := rfl
@[simp] theorem State.withGeom_dst (g : GeomRegs) (s : State) : (State.withGeom g s).dst = s.dst := rfl
@[simp] theorem State.withGeom_blk (g : GeomRegs) (s : State) : (State.withGeom g s).blk = s.blk := rfl
@[simp] theorem State.withGeom_mem (g : GeomRegs) (s : State) : (State.withGeom g s).mem = s.mem := rfl
@[simp] theorem State.withGeom_stream (g : GeomRegs) (s : State) : (State.withGeom g s).stream = s.stream := rfl
@[simp] theorem State.withGeom_port (g : GeomRegs) (s : State) : (State.withGeom g s).port = s.port := rfl
@[simp] theorem State.withGeom_sink (g : GeomRegs) (s : State) : (State.withGeom g s).sink = s.sink := rfl
@[simp] theorem State.withGeom_events (g : GeomRegs) (s : State) : (State.withGeom g s).events = s.events := rfl
@[simp] theorem State.withGeom_seen (g : GeomRegs) (s : State) : (State.withGeom g s).seen = s.seen := rfl
@[simp] theorem State.withGeom_draws (g : GeomRegs) (s : State) : (State.withGeom g s).draws = s.draws := rfl
@[simp] theorem State.withGeom_busy (g : GeomRegs) (s : State) : (State.withGeom g s).busy = s.busy := rfl

/-! ### State.withFrameCount -/

@[simp] theorem State.withFrameCount_params (e n : Word) (s : State) : (State.withFrameCount e n s).params = s.params := rfl
@[simp] theorem State.withFrameCount_inFlight (e n : Word) (s : State) : (State.withFrameCount e n s).inFlight = s.inFlight := rfl
@[simp] theorem State.withFrameCount_status (e n : Word) (s : State) : (State.withFrameCount e n s).status = s.status := rfl
@[simp] theorem State.withFrameCount_ctrl (e n : Word) (s : State) : (State.withFrameCount e n s).ctrl = s.ctrl := rfl
@[simp] theorem State.withFrameCount_cfg (e n : Word) (s : State) : (State.withFrameCount e n s).cfg = s.cfg := rfl
@[simp] theorem State.withFrameCount_streamPos (e n : Word) (s : State) : (State.withFrameCount e n s).streamPos = s.streamPos := rfl
@[simp] theorem State.withFrameCount_align (e n : Word) (s : State) : (State.withFrameCount e n s).align = s.align := rfl
@[simp] theorem State.withFrameCount_fc (e n : Word) (s : State) : (State.withFrameCount e n s).fc = { s.fc with extent := e, count := n } := rfl
@[simp] theorem State.withFrameCount_geom (e n : Word) (s : State) : (State.withFrameCount e n s).geom = s.geom := rfl
@[simp] theorem State.withFrameCount_src (e n : Word) (s : State) : (State.withFrameCount e n s).src = s.src := rfl
@[simp] theorem State.withFrameCount_dst (e n : Word) (s : State) : (State.withFrameCount e n s).dst = s.dst := rfl
@[simp] theorem State.withFrameCount_blk (e n : Word) (s : State) : (State.withFrameCount e n s).blk = s.blk := rfl
@[simp] theorem State.withFrameCount_mem (e n : Word) (s : State) : (State.withFrameCount e n s).mem = s.mem := rfl
@[simp] theorem State.withFrameCount_stream (e n : Word) (s : State) : (State.withFrameCount e n s).stream = s.stream := rfl
@[simp] theorem State.withFrameCount_port (e n : Word) (s : State) : (State.withFrameCount e n s).port = s.port := rfl
@[simp] theorem State.withFrameCount_sink (e n : Word) (s : State) : (State.withFrameCount e n s).sink = s.sink := rfl
@[simp] theorem State.withFrameCount_events (e n : Word) (s : State) : (State.withFrameCount e n s).events = s.events := rfl
@[simp] theorem State.withFrameCount_seen (e n : Word) (s : State) : (State.withFrameCount e n s).seen = s.seen := rfl
@[simp] theorem State.withFrameCount_draws (e n : Word) (s : State) : (State.withFrameCount e n s).draws = s.draws := rfl
@[simp] theorem State.withFrameCount_busy (e n : Word) (s : State) : (State.withFrameCount e n s).busy = s.busy := rfl

/-! ### State.withBlkPk -/

@[simp] theorem State.withBlkPk_params (v : Word) (s : State) : (State.withBlkPk v s).params = s.params := rfl
@[simp] theorem State.withBlkPk_inFlight (v : Word) (s : State) : (State.withBlkPk v s).inFlight = s.inFlight := rfl
@[simp] theorem State.withBlkPk_status (v : Word) (s : State) : (State.withBlkPk v s).status = s.status := rfl
@[simp] theorem State.withBlkPk_ctrl (v : Word) (s : State) : (State.withBlkPk v s).ctrl = s.ctrl := rfl
@[simp] theorem State.withBlkPk_cfg (v : Word) (s : State) : (State.withBlkPk v s).cfg = s.cfg := rfl
@[simp] theorem State.withBlkPk_streamPos (v : Word) (s : State) : (State.withBlkPk v s).streamPos = s.streamPos := rfl
@[simp] theorem State.withBlkPk_align (v : Word) (s : State) : (State.withBlkPk v s).align = s.align := rfl
@[simp] theorem State.withBlkPk_fc (v : Word) (s : State) : (State.withBlkPk v s).fc = s.fc := rfl
@[simp] theorem State.withBlkPk_geom (v : Word) (s : State) : (State.withBlkPk v s).geom = s.geom := rfl
@[simp] theorem State.withBlkPk_src (v : Word) (s : State) : (State.withBlkPk v s).src = s.src := rfl
@[simp] theorem State.withBlkPk_dst (v : Word) (s : State) : (State.withBlkPk v s).dst = s.dst := rfl
@[simp] theorem State.withBlkPk_blk (v : Word) (s : State) : (State.withBlkPk v s).blk = { s.blk with pk := v } := rfl
@[simp] theorem State.withBlkPk_mem (v : Word) (s : State) : (State.withBlkPk v s).mem = s.mem := rfl
@[simp] theorem State.withBlkPk_stream (v : Word) (s : State) : (State.withBlkPk v s).stream = s.stream := rfl
@[simp] theorem State.withBlkPk_port (v : Word) (s : State) : (State.withBlkPk v s).port = s.port := rfl
@[simp] theorem State.withBlkPk_sink (v : Word) (s : State) : (State.withBlkPk v s).sink = s.sink := rfl
@[simp] theorem State.withBlkPk_events (v : Word) (s : State) : (State.withBlkPk v s).events = s.events := rfl
@[simp] theorem State.withBlkPk_seen (v : Word) (s : State) : (State.withBlkPk v s).seen = s.seen := rfl
@[simp] theorem State.withBlkPk_draws (v : Word) (s : State) : (State.withBlkPk v s).draws = s.draws := rfl
@[simp] theorem State.withBlkPk_busy (v : Word) (s : State) : (State.withBlkPk v s).busy = s.busy := rfl

/-! ### State.withBlkOut -/

@[simp] theorem State.withBlkOut_params (v0 v1 v2 v3 : Word) (s : State) : (State.withBlkOut v0 v1 v2 v3 s).params = s.params := rfl
@[simp] theorem State.withBlkOut_inFlight (v0 v1 v2 v3 : Word) (s : State) : (State.withBlkOut v0 v1 v2 v3 s).inFlight = s.inFlight := rfl
@[simp] theorem State.withBlkOut_status (v0 v1 v2 v3 : Word) (s : State) : (State.withBlkOut v0 v1 v2 v3 s).status = s.status := rfl
@[simp] theorem State.withBlkOut_ctrl (v0 v1 v2 v3 : Word) (s : State) : (State.withBlkOut v0 v1 v2 v3 s).ctrl = s.ctrl := rfl
@[simp] theorem State.withBlkOut_cfg (v0 v1 v2 v3 : Word) (s : State) : (State.withBlkOut v0 v1 v2 v3 s).cfg = s.cfg := rfl
@[simp] theorem State.withBlkOut_streamPos (v0 v1 v2 v3 : Word) (s : State) : (State.withBlkOut v0 v1 v2 v3 s).streamPos = s.streamPos := rfl
@[simp] theorem State.withBlkOut_align (v0 v1 v2 v3 : Word) (s : State) : (State.withBlkOut v0 v1 v2 v3 s).align = s.align := rfl
@[simp] theorem State.withBlkOut_fc (v0 v1 v2 v3 : Word) (s : State) : (State.withBlkOut v0 v1 v2 v3 s).fc = s.fc := rfl
@[simp] theorem State.withBlkOut_geom (v0 v1 v2 v3 : Word) (s : State) : (State.withBlkOut v0 v1 v2 v3 s).geom = s.geom := rfl
@[simp] theorem State.withBlkOut_src (v0 v1 v2 v3 : Word) (s : State) : (State.withBlkOut v0 v1 v2 v3 s).src = s.src := rfl
@[simp] theorem State.withBlkOut_dst (v0 v1 v2 v3 : Word) (s : State) : (State.withBlkOut v0 v1 v2 v3 s).dst = s.dst := rfl
@[simp] theorem State.withBlkOut_blk (v0 v1 v2 v3 : Word) (s : State) : (State.withBlkOut v0 v1 v2 v3 s).blk = { s.blk with out0 := v0, out1 := v1, out2 := v2, out3 := v3 } := rfl
@[simp] theorem State.withBlkOut_mem (v0 v1 v2 v3 : Word) (s : State) : (State.withBlkOut v0 v1 v2 v3 s).mem = s.mem := rfl
@[simp] theorem State.withBlkOut_stream (v0 v1 v2 v3 : Word) (s : State) : (State.withBlkOut v0 v1 v2 v3 s).stream = s.stream := rfl
@[simp] theorem State.withBlkOut_port (v0 v1 v2 v3 : Word) (s : State) : (State.withBlkOut v0 v1 v2 v3 s).port = s.port := rfl
@[simp] theorem State.withBlkOut_sink (v0 v1 v2 v3 : Word) (s : State) : (State.withBlkOut v0 v1 v2 v3 s).sink = s.sink := rfl
@[simp] theorem State.withBlkOut_events (v0 v1 v2 v3 : Word) (s : State) : (State.withBlkOut v0 v1 v2 v3 s).events = s.events := rfl
@[simp] theorem State.withBlkOut_seen (v0 v1 v2 v3 : Word) (s : State) : (State.withBlkOut v0 v1 v2 v3 s).seen = s.seen := rfl
@[simp] theorem State.withBlkOut_draws (v0 v1 v2 v3 : Word) (s : State) : (State.withBlkOut v0 v1 v2 v3 s).draws = s.draws := rfl
@[simp] theorem State.withBlkOut_busy (v0 v1 v2 v3 : Word) (s : State) : (State.withBlkOut v0 v1 v2 v3 s).busy = s.busy := rfl

/-! ### State.withMem -/

@[simp] theorem State.withMem_params (m : Memory) (s : State) : (State.withMem m s).params = s.params := rfl
@[simp] theorem State.withMem_inFlight (m : Memory) (s : State) : (State.withMem m s).inFlight = s.inFlight := rfl
@[simp] theorem State.withMem_status (m : Memory) (s : State) : (State.withMem m s).status = s.status := rfl
@[simp] theorem State.withMem_ctrl (m : Memory) (s : State) : (State.withMem m s).ctrl = s.ctrl := rfl
@[simp] theorem State.withMem_cfg (m : Memory) (s : State) : (State.withMem m s).cfg = s.cfg := rfl
@[simp] theorem State.withMem_streamPos (m : Memory) (s : State) : (State.withMem m s).streamPos = s.streamPos := rfl
@[simp] theorem State.withMem_align (m : Memory) (s : State) : (State.withMem m s).align = s.align := rfl
@[simp] theorem State.withMem_fc (m : Memory) (s : State) : (State.withMem m s).fc = s.fc := rfl
@[simp] theorem State.withMem_geom (m : Memory) (s : State) : (State.withMem m s).geom = s.geom := rfl
@[simp] theorem State.withMem_src (m : Memory) (s : State) : (State.withMem m s).src = s.src := rfl
@[simp] theorem State.withMem_dst (m : Memory) (s : State) : (State.withMem m s).dst = s.dst := rfl
@[simp] theorem State.withMem_blk (m : Memory) (s : State) : (State.withMem m s).blk = s.blk := rfl
@[simp] theorem State.withMem_mem (m : Memory) (s : State) : (State.withMem m s).mem = m := rfl
@[simp] theorem State.withMem_stream (m : Memory) (s : State) : (State.withMem m s).stream = s.stream := rfl
@[simp] theorem State.withMem_port (m : Memory) (s : State) : (State.withMem m s).port = s.port := rfl
@[simp] theorem State.withMem_sink (m : Memory) (s : State) : (State.withMem m s).sink = s.sink := rfl
@[simp] theorem State.withMem_events (m : Memory) (s : State) : (State.withMem m s).events = s.events := rfl
@[simp] theorem State.withMem_seen (m : Memory) (s : State) : (State.withMem m s).seen = s.seen := rfl
@[simp] theorem State.withMem_draws (m : Memory) (s : State) : (State.withMem m s).draws = s.draws := rfl
@[simp] theorem State.withMem_busy (m : Memory) (s : State) : (State.withMem m s).busy = s.busy := rfl

/-! ### State.withStream -/

@[simp] theorem State.withStream_params (bs : List Byte) (s : State) : (State.withStream bs s).params = s.params := rfl
@[simp] theorem State.withStream_inFlight (bs : List Byte) (s : State) : (State.withStream bs s).inFlight = s.inFlight := rfl
@[simp] theorem State.withStream_status (bs : List Byte) (s : State) : (State.withStream bs s).status = s.status := rfl
@[simp] theorem State.withStream_ctrl (bs : List Byte) (s : State) : (State.withStream bs s).ctrl = s.ctrl := rfl
@[simp] theorem State.withStream_cfg (bs : List Byte) (s : State) : (State.withStream bs s).cfg = s.cfg := rfl
@[simp] theorem State.withStream_streamPos (bs : List Byte) (s : State) : (State.withStream bs s).streamPos = s.streamPos := rfl
@[simp] theorem State.withStream_align (bs : List Byte) (s : State) : (State.withStream bs s).align = s.align := rfl
@[simp] theorem State.withStream_fc (bs : List Byte) (s : State) : (State.withStream bs s).fc = s.fc := rfl
@[simp] theorem State.withStream_geom (bs : List Byte) (s : State) : (State.withStream bs s).geom = s.geom := rfl
@[simp] theorem State.withStream_src (bs : List Byte) (s : State) : (State.withStream bs s).src = s.src := rfl
@[simp] theorem State.withStream_dst (bs : List Byte) (s : State) : (State.withStream bs s).dst = s.dst := rfl
@[simp] theorem State.withStream_blk (bs : List Byte) (s : State) : (State.withStream bs s).blk = s.blk := rfl
@[simp] theorem State.withStream_mem (bs : List Byte) (s : State) : (State.withStream bs s).mem = s.mem := rfl
@[simp] theorem State.withStream_stream (bs : List Byte) (s : State) : (State.withStream bs s).stream = bs := rfl
@[simp] theorem State.withStream_port (bs : List Byte) (s : State) : (State.withStream bs s).port = s.port := rfl
@[simp] theorem State.withStream_sink (bs : List Byte) (s : State) : (State.withStream bs s).sink = s.sink := rfl
@[simp] theorem State.withStream_events (bs : List Byte) (s : State) : (State.withStream bs s).events = s.events := rfl
@[simp] theorem State.withStream_seen (bs : List Byte) (s : State) : (State.withStream bs s).seen = s.seen := rfl
@[simp] theorem State.withStream_draws (bs : List Byte) (s : State) : (State.withStream bs s).draws = s.draws := rfl
@[simp] theorem State.withStream_busy (bs : List Byte) (s : State) : (State.withStream bs s).busy = s.busy := rfl

/-! ### State.withStreamErr -/

@[simp] theorem State.withStreamErr_params (b : Bool) (s : State) : (State.withStreamErr b s).params = s.params := rfl
@[simp] theorem State.withStreamErr_inFlight (b : Bool) (s : State) : (State.withStreamErr b s).inFlight = s.inFlight := rfl
@[simp] theorem State.withStreamErr_status (b : Bool) (s : State) : (State.withStreamErr b s).status = s.status.withStreamErr b := rfl
@[simp] theorem State.withStreamErr_ctrl (b : Bool) (s : State) : (State.withStreamErr b s).ctrl = s.ctrl := rfl
@[simp] theorem State.withStreamErr_cfg (b : Bool) (s : State) : (State.withStreamErr b s).cfg = s.cfg := rfl
@[simp] theorem State.withStreamErr_streamPos (b : Bool) (s : State) : (State.withStreamErr b s).streamPos = s.streamPos := rfl
@[simp] theorem State.withStreamErr_align (b : Bool) (s : State) : (State.withStreamErr b s).align = s.align := rfl
@[simp] theorem State.withStreamErr_fc (b : Bool) (s : State) : (State.withStreamErr b s).fc = s.fc := rfl
@[simp] theorem State.withStreamErr_geom (b : Bool) (s : State) : (State.withStreamErr b s).geom = s.geom := rfl
@[simp] theorem State.withStreamErr_src (b : Bool) (s : State) : (State.withStreamErr b s).src = s.src := rfl
@[simp] theorem State.withStreamErr_dst (b : Bool) (s : State) : (State.withStreamErr b s).dst = s.dst := rfl
@[simp] theorem State.withStreamErr_blk (b : Bool) (s : State) : (State.withStreamErr b s).blk = s.blk := rfl
@[simp] theorem State.withStreamErr_mem (b : Bool) (s : State) : (State.withStreamErr b s).mem = s.mem := rfl
@[simp] theorem State.withStreamErr_stream (b : Bool) (s : State) : (State.withStreamErr b s).stream = s.stream := rfl
@[simp] theorem State.withStreamErr_port (b : Bool) (s : State) : (State.withStreamErr b s).port = s.port := rfl
@[simp] theorem State.withStreamErr_sink (b : Bool) (s : State) : (State.withStreamErr b s).sink = s.sink := rfl
@[simp] theorem State.withStreamErr_events (b : Bool) (s : State) : (State.withStreamErr b s).events = s.events := rfl
@[simp] theorem State.withStreamErr_seen (b : Bool) (s : State) : (State.withStreamErr b s).seen = s.seen := rfl
@[simp] theorem State.withStreamErr_draws (b : Bool) (s : State) : (State.withStreamErr b s).draws = s.draws := rfl
@[simp] theorem State.withStreamErr_busy (b : Bool) (s : State) : (State.withStreamErr b s).busy = s.busy := rfl

/-! ### State.withStreamPos -/

@[simp] theorem State.withStreamPos_params (v : Word) (s : State) : (State.withStreamPos v s).params = s.params := rfl
@[simp] theorem State.withStreamPos_inFlight (v : Word) (s : State) : (State.withStreamPos v s).inFlight = s.inFlight := rfl
@[simp] theorem State.withStreamPos_status (v : Word) (s : State) : (State.withStreamPos v s).status = s.status := rfl
@[simp] theorem State.withStreamPos_ctrl (v : Word) (s : State) : (State.withStreamPos v s).ctrl = s.ctrl := rfl
@[simp] theorem State.withStreamPos_cfg (v : Word) (s : State) : (State.withStreamPos v s).cfg = s.cfg := rfl
@[simp] theorem State.withStreamPos_streamPos (v : Word) (s : State) : (State.withStreamPos v s).streamPos = v := rfl
@[simp] theorem State.withStreamPos_align (v : Word) (s : State) : (State.withStreamPos v s).align = s.align := rfl
@[simp] theorem State.withStreamPos_fc (v : Word) (s : State) : (State.withStreamPos v s).fc = s.fc := rfl
@[simp] theorem State.withStreamPos_geom (v : Word) (s : State) : (State.withStreamPos v s).geom = s.geom := rfl
@[simp] theorem State.withStreamPos_src (v : Word) (s : State) : (State.withStreamPos v s).src = s.src := rfl
@[simp] theorem State.withStreamPos_dst (v : Word) (s : State) : (State.withStreamPos v s).dst = s.dst := rfl
@[simp] theorem State.withStreamPos_blk (v : Word) (s : State) : (State.withStreamPos v s).blk = s.blk := rfl
@[simp] theorem State.withStreamPos_mem (v : Word) (s : State) : (State.withStreamPos v s).mem = s.mem := rfl
@[simp] theorem State.withStreamPos_stream (v : Word) (s : State) : (State.withStreamPos v s).stream = s.stream := rfl
@[simp] theorem State.withStreamPos_port (v : Word) (s : State) : (State.withStreamPos v s).port = s.port := rfl
@[simp] theorem State.withStreamPos_sink (v : Word) (s : State) : (State.withStreamPos v s).sink = s.sink := rfl
@[simp] theorem State.withStreamPos_events (v : Word) (s : State) : (State.withStreamPos v s).events = s.events := rfl
@[simp] theorem State.withStreamPos_seen (v : Word) (s : State) : (State.withStreamPos v s).seen = s.seen := rfl
@[simp] theorem State.withStreamPos_draws (v : Word) (s : State) : (State.withStreamPos v s).draws = s.draws := rfl
@[simp] theorem State.withStreamPos_busy (v : Word) (s : State) : (State.withStreamPos v s).busy = s.busy := rfl

/-! ### State.withSeen -/

@[simp] theorem State.withSeen_params (x : Seen) (s : State) : (State.withSeen x s).params = s.params := rfl
@[simp] theorem State.withSeen_inFlight (x : Seen) (s : State) : (State.withSeen x s).inFlight = s.inFlight := rfl
@[simp] theorem State.withSeen_status (x : Seen) (s : State) : (State.withSeen x s).status = s.status := rfl
@[simp] theorem State.withSeen_ctrl (x : Seen) (s : State) : (State.withSeen x s).ctrl = s.ctrl := rfl
@[simp] theorem State.withSeen_cfg (x : Seen) (s : State) : (State.withSeen x s).cfg = s.cfg := rfl
@[simp] theorem State.withSeen_streamPos (x : Seen) (s : State) : (State.withSeen x s).streamPos = s.streamPos := rfl
@[simp] theorem State.withSeen_align (x : Seen) (s : State) : (State.withSeen x s).align = s.align := rfl
@[simp] theorem State.withSeen_fc (x : Seen) (s : State) : (State.withSeen x s).fc = s.fc := rfl
@[simp] theorem State.withSeen_geom (x : Seen) (s : State) : (State.withSeen x s).geom = s.geom := rfl
@[simp] theorem State.withSeen_src (x : Seen) (s : State) : (State.withSeen x s).src = s.src := rfl
@[simp] theorem State.withSeen_dst (x : Seen) (s : State) : (State.withSeen x s).dst = s.dst := rfl
@[simp] theorem State.withSeen_blk (x : Seen) (s : State) : (State.withSeen x s).blk = s.blk := rfl
@[simp] theorem State.withSeen_mem (x : Seen) (s : State) : (State.withSeen x s).mem = s.mem := rfl
@[simp] theorem State.withSeen_stream (x : Seen) (s : State) : (State.withSeen x s).stream = s.stream := rfl
@[simp] theorem State.withSeen_port (x : Seen) (s : State) : (State.withSeen x s).port = s.port := rfl
@[simp] theorem State.withSeen_sink (x : Seen) (s : State) : (State.withSeen x s).sink = s.sink := rfl
@[simp] theorem State.withSeen_events (x : Seen) (s : State) : (State.withSeen x s).events = s.events := rfl
@[simp] theorem State.withSeen_seen (x : Seen) (s : State) : (State.withSeen x s).seen = x := rfl
@[simp] theorem State.withSeen_draws (x : Seen) (s : State) : (State.withSeen x s).draws = s.draws := rfl
@[simp] theorem State.withSeen_busy (x : Seen) (s : State) : (State.withSeen x s).busy = s.busy := rfl

/-! ### State.withSink -/

@[simp] theorem State.withSink_params (k : List SinkAnswer) (s : State) : (State.withSink k s).params = s.params := rfl
@[simp] theorem State.withSink_inFlight (k : List SinkAnswer) (s : State) : (State.withSink k s).inFlight = s.inFlight := rfl
@[simp] theorem State.withSink_status (k : List SinkAnswer) (s : State) : (State.withSink k s).status = s.status := rfl
@[simp] theorem State.withSink_ctrl (k : List SinkAnswer) (s : State) : (State.withSink k s).ctrl = s.ctrl := rfl
@[simp] theorem State.withSink_cfg (k : List SinkAnswer) (s : State) : (State.withSink k s).cfg = s.cfg := rfl
@[simp] theorem State.withSink_streamPos (k : List SinkAnswer) (s : State) : (State.withSink k s).streamPos = s.streamPos := rfl
@[simp] theorem State.withSink_align (k : List SinkAnswer) (s : State) : (State.withSink k s).align = s.align := rfl
@[simp] theorem State.withSink_fc (k : List SinkAnswer) (s : State) : (State.withSink k s).fc = s.fc := rfl
@[simp] theorem State.withSink_geom (k : List SinkAnswer) (s : State) : (State.withSink k s).geom = s.geom := rfl
@[simp] theorem State.withSink_src (k : List SinkAnswer) (s : State) : (State.withSink k s).src = s.src := rfl
@[simp] theorem State.withSink_dst (k : List SinkAnswer) (s : State) : (State.withSink k s).dst = s.dst := rfl
@[simp] theorem State.withSink_blk (k : List SinkAnswer) (s : State) : (State.withSink k s).blk = s.blk := rfl
@[simp] theorem State.withSink_mem (k : List SinkAnswer) (s : State) : (State.withSink k s).mem = s.mem := rfl
@[simp] theorem State.withSink_stream (k : List SinkAnswer) (s : State) : (State.withSink k s).stream = s.stream := rfl
@[simp] theorem State.withSink_port (k : List SinkAnswer) (s : State) : (State.withSink k s).port = s.port := rfl
@[simp] theorem State.withSink_sink (k : List SinkAnswer) (s : State) : (State.withSink k s).sink = k := rfl
@[simp] theorem State.withSink_events (k : List SinkAnswer) (s : State) : (State.withSink k s).events = s.events := rfl
@[simp] theorem State.withSink_seen (k : List SinkAnswer) (s : State) : (State.withSink k s).seen = s.seen := rfl
@[simp] theorem State.withSink_draws (k : List SinkAnswer) (s : State) : (State.withSink k s).draws = s.draws := rfl
@[simp] theorem State.withSink_busy (k : List SinkAnswer) (s : State) : (State.withSink k s).busy = s.busy := rfl

/-! ### State.withPort -/

@[simp] theorem State.withPort_params (p : List (Nat × PortAnswer)) (s : State) : (State.withPort p s).params = s.params := rfl
@[simp] theorem State.withPort_inFlight (p : List (Nat × PortAnswer)) (s : State) : (State.withPort p s).inFlight = s.inFlight := rfl
@[simp] theorem State.withPort_status (p : List (Nat × PortAnswer)) (s : State) : (State.withPort p s).status = s.status := rfl
@[simp] theorem State.withPort_ctrl (p : List (Nat × PortAnswer)) (s : State) : (State.withPort p s).ctrl = s.ctrl := rfl
@[simp] theorem State.withPort_cfg (p : List (Nat × PortAnswer)) (s : State) : (State.withPort p s).cfg = s.cfg := rfl
@[simp] theorem State.withPort_streamPos (p : List (Nat × PortAnswer)) (s : State) : (State.withPort p s).streamPos = s.streamPos := rfl
@[simp] theorem State.withPort_align (p : List (Nat × PortAnswer)) (s : State) : (State.withPort p s).align = s.align := rfl
@[simp] theorem State.withPort_fc (p : List (Nat × PortAnswer)) (s : State) : (State.withPort p s).fc = s.fc := rfl
@[simp] theorem State.withPort_geom (p : List (Nat × PortAnswer)) (s : State) : (State.withPort p s).geom = s.geom := rfl
@[simp] theorem State.withPort_src (p : List (Nat × PortAnswer)) (s : State) : (State.withPort p s).src = s.src := rfl
@[simp] theorem State.withPort_dst (p : List (Nat × PortAnswer)) (s : State) : (State.withPort p s).dst = s.dst := rfl
@[simp] theorem State.withPort_blk (p : List (Nat × PortAnswer)) (s : State) : (State.withPort p s).blk = s.blk := rfl
@[simp] theorem State.withPort_mem (p : List (Nat × PortAnswer)) (s : State) : (State.withPort p s).mem = s.mem := rfl
@[simp] theorem State.withPort_stream (p : List (Nat × PortAnswer)) (s : State) : (State.withPort p s).stream = s.stream := rfl
@[simp] theorem State.withPort_port (p : List (Nat × PortAnswer)) (s : State) : (State.withPort p s).port = p := rfl
@[simp] theorem State.withPort_sink (p : List (Nat × PortAnswer)) (s : State) : (State.withPort p s).sink = s.sink := rfl
@[simp] theorem State.withPort_events (p : List (Nat × PortAnswer)) (s : State) : (State.withPort p s).events = s.events := rfl
@[simp] theorem State.withPort_seen (p : List (Nat × PortAnswer)) (s : State) : (State.withPort p s).seen = s.seen := rfl
@[simp] theorem State.withPort_draws (p : List (Nat × PortAnswer)) (s : State) : (State.withPort p s).draws = s.draws := rfl
@[simp] theorem State.withPort_busy (p : List (Nat × PortAnswer)) (s : State) : (State.withPort p s).busy = s.busy := rfl

/-! ### State.withEvents -/

@[simp] theorem State.withEvents_params (es : List Event) (s : State) : (State.withEvents es s).params = s.params := rfl
@[simp] theorem State.withEvents_inFlight (es : List Event) (s : State) : (State.withEvents es s).inFlight = s.inFlight := rfl
@[simp] theorem State.withEvents_status (es : List Event) (s : State) : (State.withEvents es s).status = s.status := rfl
@[simp] theorem State.withEvents_ctrl (es : List Event) (s : State) : (State.withEvents es s).ctrl = s.ctrl := rfl
@[simp] theorem State.withEvents_cfg (es : List Event) (s : State) : (State.withEvents es s).cfg = s.cfg := rfl
@[simp] theorem State.withEvents_streamPos (es : List Event) (s : State) : (State.withEvents es s).streamPos = s.streamPos := rfl
@[simp] theorem State.withEvents_align (es : List Event) (s : State) : (State.withEvents es s).align = s.align := rfl
@[simp] theorem State.withEvents_fc (es : List Event) (s : State) : (State.withEvents es s).fc = s.fc := rfl
@[simp] theorem State.withEvents_geom (es : List Event) (s : State) : (State.withEvents es s).geom = s.geom := rfl
@[simp] theorem State.withEvents_src (es : List Event) (s : State) : (State.withEvents es s).src = s.src := rfl
@[simp] theorem State.withEvents_dst (es : List Event) (s : State) : (State.withEvents es s).dst = s.dst := rfl
@[simp] theorem State.withEvents_blk (es : List Event) (s : State) : (State.withEvents es s).blk = s.blk := rfl
@[simp] theorem State.withEvents_mem (es : List Event) (s : State) : (State.withEvents es s).mem = s.mem := rfl
@[simp] theorem State.withEvents_stream (es : List Event) (s : State) : (State.withEvents es s).stream = s.stream := rfl
@[simp] theorem State.withEvents_port (es : List Event) (s : State) : (State.withEvents es s).port = s.port := rfl
@[simp] theorem State.withEvents_sink (es : List Event) (s : State) : (State.withEvents es s).sink = s.sink := rfl
@[simp] theorem State.withEvents_events (es : List Event) (s : State) : (State.withEvents es s).events = es := rfl
@[simp] theorem State.withEvents_seen (es : List Event) (s : State) : (State.withEvents es s).seen = s.seen := rfl
@[simp] theorem State.withEvents_draws (es : List Event) (s : State) : (State.withEvents es s).draws = s.draws := rfl
@[simp] theorem State.withEvents_busy (es : List Event) (s : State) : (State.withEvents es s).busy = s.busy := rfl

/-! ### State.emitted -/

@[simp] theorem State.emitted_params (bs : List Byte) (s : State) : (State.emitted bs s).params = s.params := rfl
@[simp] theorem State.emitted_inFlight (bs : List Byte) (s : State) : (State.emitted bs s).inFlight = s.inFlight := rfl
@[simp] theorem State.emitted_status (bs : List Byte) (s : State) : (State.emitted bs s).status = s.status := rfl
@[simp] theorem State.emitted_ctrl (bs : List Byte) (s : State) : (State.emitted bs s).ctrl = s.ctrl := rfl
@[simp] theorem State.emitted_cfg (bs : List Byte) (s : State) : (State.emitted bs s).cfg = s.cfg := rfl
@[simp] theorem State.emitted_streamPos (bs : List Byte) (s : State) : (State.emitted bs s).streamPos = posAfter s.streamPos bs.length := rfl
@[simp] theorem State.emitted_align (bs : List Byte) (s : State) : (State.emitted bs s).align = s.align := rfl
@[simp] theorem State.emitted_fc (bs : List Byte) (s : State) : (State.emitted bs s).fc = s.fc := rfl
@[simp] theorem State.emitted_geom (bs : List Byte) (s : State) : (State.emitted bs s).geom = s.geom := rfl
@[simp] theorem State.emitted_src (bs : List Byte) (s : State) : (State.emitted bs s).src = s.src := rfl
@[simp] theorem State.emitted_dst (bs : List Byte) (s : State) : (State.emitted bs s).dst = s.dst := rfl
@[simp] theorem State.emitted_blk (bs : List Byte) (s : State) : (State.emitted bs s).blk = s.blk := rfl
@[simp] theorem State.emitted_mem (bs : List Byte) (s : State) : (State.emitted bs s).mem = s.mem := rfl
@[simp] theorem State.emitted_stream (bs : List Byte) (s : State) : (State.emitted bs s).stream = s.stream ++ bs := rfl
@[simp] theorem State.emitted_port (bs : List Byte) (s : State) : (State.emitted bs s).port = s.port := rfl
@[simp] theorem State.emitted_sink (bs : List Byte) (s : State) : (State.emitted bs s).sink = s.sink.drop bs.length := rfl
@[simp] theorem State.emitted_events (bs : List Byte) (s : State) : (State.emitted bs s).events = s.events := rfl
@[simp] theorem State.emitted_seen (bs : List Byte) (s : State) : (State.emitted bs s).seen = s.seen := rfl
@[simp] theorem State.emitted_draws (bs : List Byte) (s : State) : (State.emitted bs s).draws = s.draws := rfl
@[simp] theorem State.emitted_busy (bs : List Byte) (s : State) : (State.emitted bs s).busy = s.busy := rfl

/-! ### State.issue -/

@[simp] theorem State.issue_params (w : Word) (s : State) : (State.issue w s).params = s.params := rfl
@[simp] theorem State.issue_inFlight (w : Word) (s : State) : (State.issue w s).inFlight = some w := rfl
@[simp] theorem State.issue_status (w : Word) (s : State) : (State.issue w s).status = s.status.issued := rfl
@[simp] theorem State.issue_ctrl (w : Word) (s : State) : (State.issue w s).ctrl = s.ctrl := rfl
@[simp] theorem State.issue_cfg (w : Word) (s : State) : (State.issue w s).cfg = s.cfg := rfl
@[simp] theorem State.issue_streamPos (w : Word) (s : State) : (State.issue w s).streamPos = s.streamPos := rfl
@[simp] theorem State.issue_align (w : Word) (s : State) : (State.issue w s).align = s.align := rfl
@[simp] theorem State.issue_fc (w : Word) (s : State) : (State.issue w s).fc = s.fc := rfl
@[simp] theorem State.issue_geom (w : Word) (s : State) : (State.issue w s).geom = s.geom := rfl
@[simp] theorem State.issue_src (w : Word) (s : State) : (State.issue w s).src = s.src := rfl
@[simp] theorem State.issue_dst (w : Word) (s : State) : (State.issue w s).dst = s.dst := rfl
@[simp] theorem State.issue_blk (w : Word) (s : State) : (State.issue w s).blk = s.blk := rfl
@[simp] theorem State.issue_mem (w : Word) (s : State) : (State.issue w s).mem = s.mem := rfl
@[simp] theorem State.issue_stream (w : Word) (s : State) : (State.issue w s).stream = s.stream := rfl
@[simp] theorem State.issue_port (w : Word) (s : State) : (State.issue w s).port = s.port := rfl
@[simp] theorem State.issue_sink (w : Word) (s : State) : (State.issue w s).sink = s.sink := rfl
@[simp] theorem State.issue_events (w : Word) (s : State) : (State.issue w s).events = s.events := rfl
@[simp] theorem State.issue_seen (w : Word) (s : State) : (State.issue w s).seen = s.seen := rfl
@[simp] theorem State.issue_draws (w : Word) (s : State) : (State.issue w s).draws = s.draws := rfl
@[simp] theorem State.issue_busy (w : Word) (s : State) : (State.issue w s).busy = true := rfl

/-! ### State.finish -/

@[simp] theorem State.finish_params (e : ErrCode) (s : State) : (State.finish e s).params = s.params := rfl
@[simp] theorem State.finish_inFlight (e : ErrCode) (s : State) : (State.finish e s).inFlight = none := rfl
@[simp] theorem State.finish_status (e : ErrCode) (s : State) : (State.finish e s).status = s.status.finished e := rfl
@[simp] theorem State.finish_ctrl (e : ErrCode) (s : State) : (State.finish e s).ctrl = s.ctrl := rfl
@[simp] theorem State.finish_cfg (e : ErrCode) (s : State) : (State.finish e s).cfg = s.cfg := rfl
@[simp] theorem State.finish_streamPos (e : ErrCode) (s : State) : (State.finish e s).streamPos = s.streamPos := rfl
@[simp] theorem State.finish_align (e : ErrCode) (s : State) : (State.finish e s).align = s.align := rfl
@[simp] theorem State.finish_fc (e : ErrCode) (s : State) : (State.finish e s).fc = s.fc := rfl
@[simp] theorem State.finish_geom (e : ErrCode) (s : State) : (State.finish e s).geom = s.geom := rfl
@[simp] theorem State.finish_src (e : ErrCode) (s : State) : (State.finish e s).src = s.src := rfl
@[simp] theorem State.finish_dst (e : ErrCode) (s : State) : (State.finish e s).dst = s.dst := rfl
@[simp] theorem State.finish_blk (e : ErrCode) (s : State) : (State.finish e s).blk = s.blk := rfl
@[simp] theorem State.finish_mem (e : ErrCode) (s : State) : (State.finish e s).mem = s.mem := rfl
@[simp] theorem State.finish_stream (e : ErrCode) (s : State) : (State.finish e s).stream = s.stream := rfl
@[simp] theorem State.finish_port (e : ErrCode) (s : State) : (State.finish e s).port = s.port := rfl
@[simp] theorem State.finish_sink (e : ErrCode) (s : State) : (State.finish e s).sink = s.sink := rfl
@[simp] theorem State.finish_events (e : ErrCode) (s : State) : (State.finish e s).events = s.events := rfl
@[simp] theorem State.finish_seen (e : ErrCode) (s : State) : (State.finish e s).seen = s.seen := rfl
@[simp] theorem State.finish_draws (e : ErrCode) (s : State) : (State.finish e s).draws = s.draws := rfl
@[simp] theorem State.finish_busy (e : ErrCode) (s : State) : (State.finish e s).busy = false := rfl

/-! ### State.blockReset -/

@[simp] theorem State.blockReset_params (s : State) : (State.blockReset s).params = s.params := rfl
@[simp] theorem State.blockReset_inFlight (s : State) : (State.blockReset s).inFlight = State.reset.inFlight := rfl
@[simp] theorem State.blockReset_status (s : State) : (State.blockReset s).status = State.reset.status := rfl
@[simp] theorem State.blockReset_ctrl (s : State) : (State.blockReset s).ctrl = State.reset.ctrl := rfl
@[simp] theorem State.blockReset_cfg (s : State) : (State.blockReset s).cfg = State.reset.cfg := rfl
@[simp] theorem State.blockReset_streamPos (s : State) : (State.blockReset s).streamPos = State.reset.streamPos := rfl
@[simp] theorem State.blockReset_align (s : State) : (State.blockReset s).align = State.reset.align := rfl
@[simp] theorem State.blockReset_fc (s : State) : (State.blockReset s).fc = State.reset.fc := rfl
@[simp] theorem State.blockReset_geom (s : State) : (State.blockReset s).geom = State.reset.geom := rfl
@[simp] theorem State.blockReset_src (s : State) : (State.blockReset s).src = State.reset.src := rfl
@[simp] theorem State.blockReset_dst (s : State) : (State.blockReset s).dst = State.reset.dst := rfl
@[simp] theorem State.blockReset_blk (s : State) : (State.blockReset s).blk = State.reset.blk := rfl
@[simp] theorem State.blockReset_mem (s : State) : (State.blockReset s).mem = s.mem := rfl
@[simp] theorem State.blockReset_stream (s : State) : (State.blockReset s).stream = s.stream := rfl
@[simp] theorem State.blockReset_port (s : State) : (State.blockReset s).port = s.port := rfl
@[simp] theorem State.blockReset_sink (s : State) : (State.blockReset s).sink = s.sink := rfl
@[simp] theorem State.blockReset_events (s : State) : (State.blockReset s).events = s.events := rfl
@[simp] theorem State.blockReset_seen (s : State) : (State.blockReset s).seen = s.seen := rfl
@[simp] theorem State.blockReset_draws (s : State) : (State.blockReset s).draws = s.draws := rfl
@[simp] theorem State.blockReset_busy (s : State) : (State.blockReset s).busy = false := rfl

/-! ### The fields of STATUS -/

@[simp] theorem Status.issued_done (st : Status) : st.issued.done = false := rfl
@[simp] theorem Status.issued_err (st : Status) : st.issued.err = .ok := rfl
@[simp] theorem Status.issued_streamErr (st : Status) : st.issued.streamErr = st.streamErr := rfl
@[simp] theorem Status.finished_done (e : ErrCode) (st : Status) : (st.finished e).done = true := rfl
@[simp] theorem Status.finished_err (e : ErrCode) (st : Status) : (st.finished e).err = e := rfl
@[simp] theorem Status.finished_streamErr (e : ErrCode) (st : Status) : (st.finished e).streamErr = st.streamErr := rfl
@[simp] theorem Status.withStreamErr_done (b : Bool) (st : Status) : (st.withStreamErr b).done = st.done := rfl
@[simp] theorem Status.withStreamErr_err (b : Bool) (st : Status) : (st.withStreamErr b).err = st.err := rfl
@[simp] theorem Status.withStreamErr_streamErr (b : Bool) (st : Status) : (st.withStreamErr b).streamErr = b := rfl

/-! ### Outcomes -/

@[simp] theorem raise_eq_next (e : ErrCode) (s t : State) : raise e s = .next t ↔ t = s.finish e := by
  simp [raise, eq_comm]

@[simp] theorem complete_eq_next (s t : State) : complete s = .next t ↔ t = s.finish .ok := by
  simp [complete, eq_comm]

theorem raise_def (e : ErrCode) (s : State) : raise e s = .next (s.finish e) := rfl

theorem complete_def (s : State) : complete s = .next (s.finish .ok) := rfl

@[simp] theorem raise_ne_fault (e : ErrCode) (s : State) (r : Fault) : raise e s ≠ .fault r := by simp [raise]

@[simp] theorem complete_ne_fault (s : State) (r : Fault) : complete s ≠ .fault r := by simp [complete]

@[simp] theorem raise_ne_refused (e : ErrCode) (s : State) (r : Refusal) : raise e s ≠ .refused r := by simp [raise]

@[simp] theorem complete_ne_refused (s : State) (r : Refusal) : complete s ≠ .refused r := by simp [complete]

end Sys2Proof.Machine
end

