-- ==== Sys2Proof/Laws/Memory.lean ====
section
/-! SUPPORT. The laws of host memory: a read after a write, the canonical form, and what a list of writes leaves. -/

namespace Sys2Proof.Machine

@[simp] theorem Memory.read_nil (a : Nat) : Memory.read [] a = Config.unlistedByte := rfl

theorem Memory.read_cons (m : Memory) (k a : Nat) (b : Byte) :
    Memory.read ((k, b) :: m) a = if k = a then b else Memory.read m a := rfl

theorem Memory.wfFrom_mono {m : Memory} {lo hi : Nat} (h : lo ≤ hi) (hm : Memory.wfFrom hi m = true) :
    Memory.wfFrom lo m = true := by
  cases m with
  | nil => rfl
  | cons c rest =>
    simp only [Memory.wfFrom, Bool.and_eq_true, decide_eq_true_eq] at hm ⊢
    exact ⟨⟨by omega, hm.1.2⟩, hm.2⟩

/-- Below its first possible address a canonical memory lists nothing. -/
theorem Memory.read_below {m : Memory} {lo a : Nat} (hm : Memory.wfFrom lo m = true) (h : a < lo) :
    m.read a = Config.unlistedByte := by
  induction m generalizing lo with
  | nil => rfl
  | cons c rest ih =>
    obtain ⟨k, b⟩ := c
    simp only [Memory.wfFrom, Bool.and_eq_true, decide_eq_true_eq] at hm
    rw [Memory.read_cons, if_neg (by omega)]
    exact ih hm.2 (by omega)

theorem Memory.read_consByte_self {m : Memory} {a : Nat} (b : Byte) (hm : Memory.wfFrom (a + 1) m = true) :
    (Memory.cons a b m).read a = b := by
  unfold Memory.cons
  split
  · next h => rw [Memory.read_below hm (by omega), h]
  · simp [Memory.read_cons]

theorem Memory.read_consByte_other (m : Memory) {a x : Nat} (b : Byte) (h : x ≠ a) :
    (Memory.cons a b m).read x = m.read x := by
  unfold Memory.cons
  split
  · rfl
  · rw [Memory.read_cons, if_neg (Ne.symm h)]

theorem Memory.wfFrom_consByte {m : Memory} {lo a : Nat} (b : Byte) (h : lo ≤ a)
    (hm : Memory.wfFrom (a + 1) m = true) : Memory.wfFrom lo (Memory.cons a b m) = true := by
  unfold Memory.cons
  split
  · exact Memory.wfFrom_mono (by omega) hm
  · next hb => simp [Memory.wfFrom, h, hb, hm]

/-- A read after a write to the same address gives the byte written. -/
theorem Memory.read_write_self {m : Memory} {lo a : Nat} (b : Byte) (hm : Memory.wfFrom lo m = true) :
    (m.write a b).read a = b := by
  induction m generalizing lo with
  | nil => exact Memory.read_consByte_self b rfl
  | cons c rest ih =>
    obtain ⟨k, v⟩ := c
    have hm' := hm
    simp only [Memory.wfFrom, Bool.and_eq_true, decide_eq_true_eq] at hm'
    unfold Memory.write
    split
    · next h => exact Memory.read_consByte_self b (by simp [Memory.wfFrom, hm'.1.2, hm'.2]; omega)
    · split
      · next h => subst h; exact Memory.read_consByte_self b hm'.2
      · next h => rw [Memory.read_cons, if_neg (Ne.symm h)]; exact ih hm'.2

/-- A write leaves every other address alone. -/
theorem Memory.read_write_other (m : Memory) {a x : Nat} (b : Byte) (h : x ≠ a) :
    (m.write a b).read x = m.read x := by
  induction m with
  | nil => exact Memory.read_consByte_other [] b h
  | cons c rest ih =>
    obtain ⟨k, v⟩ := c
    unfold Memory.write
    split
    · exact Memory.read_consByte_other _ b h
    · split
      · next hk =>
        rw [Memory.read_consByte_other _ b h, Memory.read_cons, if_neg (by omega)]
      · rw [Memory.read_cons, Memory.read_cons, ih]

/-- A write keeps the canonical form. -/
theorem Memory.wfFrom_write {m : Memory} {lo a : Nat} (b : Byte) (h : lo ≤ a) (hm : Memory.wfFrom lo m = true) :
    Memory.wfFrom lo (m.write a b) = true := by
  induction m generalizing lo with
  | nil => exact Memory.wfFrom_consByte b h rfl
  | cons c rest ih =>
    obtain ⟨k, v⟩ := c
    simp only [Memory.wfFrom, Bool.and_eq_true, decide_eq_true_eq] at hm
    unfold Memory.write
    split
    · exact Memory.wfFrom_consByte b h (by simp [Memory.wfFrom, hm.1.2, hm.2]; omega)
    · split
      · next hk => subst hk; exact Memory.wfFrom_consByte b h hm.2
      · simp only [Memory.wfFrom, Bool.and_eq_true, decide_eq_true_eq]
        exact ⟨hm.1, ih (by omega) hm.2⟩

theorem Memory.wf_write {m : Memory} (a : Nat) (b : Byte) (hm : m.wf = true) : (m.write a b).wf = true :=
  Memory.wfFrom_write b (Nat.zero_le a) hm

/-- A list of writes keeps the canonical form. -/
theorem Memory.wf_writeAll {m : Memory} (cells : List Host.Cell) (hm : m.wf = true) :
    (m.writeAll cells).wf = true := by
  induction cells generalizing m with
  | nil => exact hm
  | cons c rest ih => exact ih (Memory.wf_write c.1 c.2 hm)

/-- An address that no cell of the list writes keeps its byte. -/
theorem Memory.read_writeAll_other {m : Memory} {cells : List Host.Cell} {x : Nat}
    (h : ∀ c ∈ cells, c.1 ≠ x) : (m.writeAll cells).read x = m.read x := by
  induction cells generalizing m with
  | nil => rfl
  | cons c rest ih =>
    rw [Memory.writeAll, ih fun d hd => h d (List.mem_cons_of_mem _ hd),
      Memory.read_write_other _ _ (Ne.symm (h c (List.mem_cons_self ..)))]

/-- An address that the list writes holds the byte of the cell, where all its cells carry one byte. -/
theorem Memory.read_writeAll_mem {m : Memory} {cells : List Host.Cell} {x : Nat} {b : Byte} (hm : m.wf = true)
    (hx : (x, b) ∈ cells) (h : ∀ c ∈ cells, c.1 = x → c.2 = b) : (m.writeAll cells).read x = b := by
  induction cells generalizing m with
  | nil => simp at hx
  | cons c rest ih =>
    rw [Memory.writeAll]
    by_cases hr : (x, b) ∈ rest
    · exact ih (Memory.wf_write _ _ hm) hr fun d hd => h d (List.mem_cons_of_mem _ hd)
    · by_cases ho : ∃ d ∈ rest, d.1 = x
      · obtain ⟨d, hd, hdx⟩ := ho
        exact absurd (by rw [← hdx, ← h d (List.mem_cons_of_mem _ hd) hdx]; exact hd) hr
      · have hc : c = (x, b) := by
          rcases List.mem_cons.mp hx with e | e
          · exact e.symm
          · exact absurd e hr
        rw [Memory.read_writeAll_other fun d hd hdx => ho ⟨d, hd, hdx⟩, hc]
        exact Memory.read_write_self b (lo := 0) hm

theorem Memory.mem_cons {m : Memory} {a : Nat} {b : Byte} {c : Host.Cell} (h : c ∈ Memory.cons a b m) :
    c = (a, b) ∨ c ∈ m := by
  unfold Memory.cons at h
  split at h
  · exact Or.inr h
  · simpa using h

/-- What a write lists: the cell written, or a cell listed before. -/
theorem Memory.mem_write {m : Memory} {a : Nat} {b : Byte} {c : Host.Cell} (h : c ∈ m.write a b) :
    c = (a, b) ∨ c ∈ m := by
  induction m with
  | nil => simpa using Memory.mem_cons h
  | cons d rest ih =>
    obtain ⟨k, v⟩ := d
    unfold Memory.write at h
    split at h
    · exact Memory.mem_cons h
    · split at h
      · rcases Memory.mem_cons h with e | e
        · exact Or.inl e
        · exact Or.inr (List.mem_cons_of_mem _ e)
      · rcases List.mem_cons.mp h with e | e
        · exact Or.inr (by rw [e]; exact List.mem_cons_self ..)
        · rcases ih e with e | e
          · exact Or.inl e
          · exact Or.inr (List.mem_cons_of_mem _ e)

/-- What a list of writes lists: a cell of the list, or a cell listed before. -/
theorem Memory.mem_writeAll {m : Memory} {cells : List Host.Cell} {c : Host.Cell} (h : c ∈ m.writeAll cells) :
    c ∈ cells ∨ c ∈ m := by
  induction cells generalizing m with
  | nil => exact Or.inr h
  | cons d rest ih =>
    rcases ih h with e | e
    · exact Or.inl (List.mem_cons_of_mem _ e)
    · rcases Memory.mem_write e with e | e
      · exact Or.inl (by rw [e]; exact List.mem_cons_self ..)
      · exact Or.inr e

/-! ### Cells -/

@[simp] theorem cellsAt_length (a : Nat) (bs : List Byte) : (cellsAt a bs).length = bs.length := by
  induction bs generalizing a with
  | nil => rfl
  | cons b rest ih => simp [cellsAt, ih]

/-- The cells of a byte sequence: byte i at address a + i. -/
theorem mem_cellsAt {a : Nat} {bs : List Byte} {c : Host.Cell} :
    c ∈ cellsAt a bs ↔ ∃ i, bs[i]? = some c.2 ∧ c.1 = a + i := by
  induction bs generalizing a with
  | nil => simp [cellsAt]
  | cons b rest ih =>
    rw [cellsAt, List.mem_cons, ih]
    constructor
    · rintro (rfl | ⟨i, hi, ha⟩)
      · exact ⟨0, by simp, by simp⟩
      · exact ⟨i + 1, by simpa using hi, by omega⟩
    · rintro ⟨i, hi, ha⟩
      cases i with
      | zero => exact Or.inl (Prod.ext (by simpa using ha) (by simpa using hi.symm))
      | succ i => exact Or.inr ⟨i, by simpa using hi, by omega⟩

/-! ### Settled and partial writes -/

theorem settledWrites_fst (draw : Nat) (cells : List Host.Cell) :
    (settledWrites draw cells).map Prod.fst = cells.map Prod.fst := by
  simp [settledWrites, Function.comp_def]

/-- Where every address is written once, nothing is drawn: the settled writes are the writes. -/
theorem settledWrites_of_once (draw : Nat) {cells : List Host.Cell}
    (h : ∀ c ∈ cells, writesTo c.1 cells = [c.2]) : settledWrites draw cells = cells := by
  unfold settledWrites
  conv_rhs => rw [← List.map_id cells]
  exact List.map_congr_left fun c hc => by simp [h c hc, lastWritten]

/-- A byte that an address ends with is one of the bytes written to it. -/
theorem lastWritten_mem (draw a : Nat) (b : Byte) {ws : List Byte} (h : ws ≠ []) :
    lastWritten draw a b ws ∈ ws := by
  match ws with
  | [] => exact absurd rfl h
  | [x] => simp [lastWritten]
  | x :: y :: rest =>
    have hlt : Config.drawLast draw a % (x :: y :: rest).length < (x :: y :: rest).length :=
      Nat.mod_lt _ (by simp)
    simp only [lastWritten, List.getD_eq_getElem?_getD, List.getElem?_eq_getElem hlt, Option.getD_some]
    exact List.getElem_mem hlt

theorem mem_writesTo {a : Nat} {b : Byte} {cells : List Host.Cell} : b ∈ writesTo a cells ↔ (a, b) ∈ cells := by
  simp only [writesTo, List.mem_map, List.mem_filter, beq_iff_eq]
  constructor
  · rintro ⟨⟨x, y⟩, ⟨hc, rfl⟩, rfl⟩
    exact hc
  · intro h
    exact ⟨(a, b), ⟨h, rfl⟩, rfl⟩

/-- A settled write puts at its address a byte that some write of the command puts there. -/
theorem settledWrites_subset {draw : Nat} {cells : List Host.Cell} {c : Host.Cell}
    (h : c ∈ settledWrites draw cells) : c ∈ cells := by
  obtain ⟨d, hd, rfl⟩ := List.mem_map.mp h
  have hne : writesTo d.1 cells ≠ [] := List.ne_nil_of_mem (mem_writesTo.mpr hd)
  exact mem_writesTo.mp (lastWritten_mem draw d.1 d.2 hne)

/-- A write that happened before an early end is one of the command's writes, drawn as written. -/
theorem partialWrites_subset {draw : Nat} {cells : List Host.Cell} {c : Host.Cell}
    (h : c ∈ partialWrites draw cells) : c ∈ cells ∧ Config.drawWritten draw c.1 = true := by
  obtain ⟨hc, hd⟩ := List.mem_filter.mp h
  exact ⟨settledWrites_subset hc, hd⟩

/-- No command writes outside the addresses of its cells. -/
theorem Memory.read_settled_other {m : Memory} {draw : Nat} {cells : List Host.Cell} {x : Nat}
    (h : ∀ c ∈ cells, c.1 ≠ x) : (m.writeAll (settledWrites draw cells)).read x = m.read x :=
  Memory.read_writeAll_other fun c hc => h c (settledWrites_subset hc)

theorem Memory.read_partial_other {m : Memory} {draw : Nat} {cells : List Host.Cell} {x : Nat}
    (h : ∀ c ∈ cells, c.1 ≠ x) : (m.writeAll (partialWrites draw cells)).read x = m.read x :=
  Memory.read_writeAll_other fun c hc => h c (partialWrites_subset hc).1

end Sys2Proof.Machine
end

