-- ==== Sys2Proof/Laws/Ops.lean ====
section
/-! SUPPORT. One lemma for each shared operation that says once everything it can do. -/

namespace Sys2Proof.Machine

/-! ### Checks -/

/-- ShapeOK holds for the registered codes with dimensions in range (40_geometry.md R106). -/
theorem shapeFormat_eq_some {c w h : Word} {f : Format} :
    shapeFormat c w h = some f ↔ registry c = some f ∧ dimsOK f w.toNat h.toNat = true := by
  unfold shapeFormat
  cases hr : registry c with
  | none => simp
  | some g =>
    by_cases hd : dimsOK g w.toNat h.toNat = true
    · simp only [hd, if_true, Option.some.injEq]
      exact ⟨fun e => by subst e; exact ⟨rfl, hd⟩, fun e => e.1⟩
    · simp only [hd, if_false, Option.some.injEq, Bool.false_eq_true]
      exact ⟨fun e => by simp at e, fun e => by rw [← e.1] at e; exact absurd e.2 hd⟩

/-- The dimensions that ShapeOK accepts (40_geometry.md R106). -/
theorem dimsOK_iff {f : Format} {w h : Nat} :
    dimsOK f w h = true ↔
      (1 ≤ w ∧ w ≤ 65535 ∧ 1 ≤ h ∧ h ≤ 65535) ∧ ∀ o, f = .packed o → w % 4 = 0 := by
  have hm : Config.maxDim = 65535 := rfl
  unfold dimsOK
  cases f <;> simp only [Bool.and_eq_true, decide_eq_true_eq, hm] <;> simp [and_assoc]

/-- The clauses of WindowOK for one plane (40_geometry.md R104). -/
theorem planeWindowOK_iff {addrW : Nat} {r : PlaneRegs} {rb ln : Nat} :
    planeWindowOK addrW r rb ln = true ↔
      r.addr ≠ 0 ∧ r.stride ≠ 0 ∧ (ln = 0 ∨ (ln - 1) * r.stride.toNat + rb ≤ r.len.toNat) ∧
        r.addr.toNat + r.len.toNat ≤ 2 ^ addrW := by
  simp [planeWindowOK, and_assoc]

/-- WindowOK holds when its clauses hold for every plane (40_geometry.md R104). -/
theorem windowOK_iff {addrW : Nat} {fr : FrameRegs} {f : Format} {w h : Nat} :
    windowOK addrW fr f w h = true ↔
      ∀ p ∈ f.planes, planeWindowOK addrW (fr.plane p) (rowBytes f w p) (planeLines h p) = true := by
  simp [windowOK, List.all_eq_true]

/-- The logical bytes of a frame: byte c of row r of plane p at ADDRp + r * STRIDEp + c (40_geometry.md R104). -/
theorem mem_frameAddrs {fr : FrameRegs} {f : Format} {w h a : Nat} :
    a ∈ frameAddrs fr f w h ↔
      ∃ p ∈ f.planes, ∃ r, r < planeLines h p ∧ ∃ c, c < rowBytes f w p ∧
        a = (fr.plane p).addr.toNat + r * (fr.plane p).stride.toNat + c := by
  simp only [frameAddrs, planeAddrs, rowAddrs, rowAddr, List.mem_flatMap, List.mem_map, List.mem_range]
  constructor
  · rintro ⟨p, hp, r, hr, c, hc, rfl⟩
    exact ⟨p, hp, r, hr, c, hc, rfl⟩
  · rintro ⟨p, hp, r, hr, c, hc, rfl⟩
    exact ⟨p, hp, r, hr, c, hc, rfl⟩

/-- A byte in a row's logical width lies in its plane's window (40_geometry.md R104). -/
theorem row_byte_in_window {addrW : Nat} {pr : PlaneRegs} {rb ln r c : Nat}
    (h : planeWindowOK addrW pr rb ln = true) (hr : r < ln) (hc : c < rb) :
    pr.addr.toNat ≤ pr.addr.toNat + r * pr.stride.toNat + c ∧
      pr.addr.toNat + r * pr.stride.toNat + c < pr.addr.toNat + pr.len.toNat ∧
        pr.addr.toNat + r * pr.stride.toNat + c < 2 ^ addrW := by
  obtain ⟨_, _, hlen, htop⟩ := planeWindowOK_iff.mp h
  rcases hlen with h0 | hlen
  · omega
  · have : r * pr.stride.toNat ≤ (ln - 1) * pr.stride.toNat := Nat.mul_le_mul_right _ (by omega)
    omega

/-- Two disjoint ranges share no address. -/
theorem disjointRegions_sound {a b : Config.Region} (h : disjointRegions a b = true) {x : Nat}
    (ha : a.start ≤ x ∧ x < a.start + a.len) : ¬(b.start ≤ x ∧ x < b.start + b.len) := by
  simp only [disjointRegions, Bool.or_eq_true, decide_eq_true_eq] at h
  omega

/-! ### Draws, the port and the sink -/

@[simp] theorem drawEarlyEnd_nil {α : Type} (draw : Nat) : drawEarlyEnd draw ([] : List α) = none := rfl

@[simp] theorem drawEarlyEnd_single {α : Type} (draw : Nat) (e : α) : drawEarlyEnd draw [e] = some e := rfl

/-- An early end that happens is one of those the command can come to. -/
theorem drawEarlyEnd_mem {α : Type} {draw : Nat} {ends : List α} {e : α} (h : drawEarlyEnd draw ends = some e) :
    e ∈ ends := by
  match ends with
  | [] => simp at h
  | [x] => simpa using h.symm
  | x :: y :: rest =>
    have hlt : Config.drawEnding draw % ((y :: rest).length + 1) < (x :: y :: rest).length :=
      Nat.mod_lt _ (Nat.succ_pos _)
    simp only [drawEarlyEnd, List.getD_eq_getElem?_getD, List.getElem?_eq_getElem hlt, Option.getD_some,
      Option.some.injEq] at h
    rw [← h]
    exact List.getElem_mem hlt

/-- A command completes with OK exactly when it can come to no early end. -/
theorem drawEarlyEnd_eq_none {α : Type} {draw : Nat} {ends : List α} : drawEarlyEnd draw ends = none ↔ ends = [] := by
  match ends with
  | [] => simp
  | [x] => simp
  | x :: y :: rest => simp [drawEarlyEnd]

theorem acceptCount_le (sink : List SinkAnswer) (n : Nat) : acceptCount sink n ≤ n := by
  induction sink generalizing n with
  | nil => exact Nat.le_refl n
  | cons x rest ih =>
    cases n with
    | zero => cases x <;> exact Nat.le_refl 0
    | succ n => cases x <;> simp [acceptCount, ih n]

/-- A byte that the sink does not accept it refuses or leaves without an answer. -/
theorem sinkAnswer_of_acceptCount_lt {sink : List SinkAnswer} {n : Nat} (h : acceptCount sink n < n) :
    sinkAnswer (sink.drop (acceptCount sink n)) ≠ .accept := by
  induction sink generalizing n with
  | nil => exact absurd h (Nat.lt_irrefl n)
  | cons x rest ih =>
    cases n with
    | zero => exact absurd h (Nat.not_lt_zero _)
    | succ n =>
      cases x with
      | accept =>
        simp only [acceptCount, Nat.add_lt_add_iff_right] at h
        simpa [acceptCount] using ih h
      | refuse => simp [acceptCount, sinkAnswer]
      | silent => simp [acceptCount, sinkAnswer]

theorem drawnPrefix_le (draw limit : Nat) : drawnPrefix draw limit ≤ limit :=
  Nat.le_of_lt_succ (Nat.mod_lt _ (Nat.succ_pos limit))

theorem FramePlan.readable_le (p : FramePlan) (port : List (Nat × PortAnswer)) (m : Memory) :
    p.readable port ≤ (p.bytes m).length := by
  simp only [FramePlan.readable, FramePlan.bytes, List.length_append, List.length_map]
  have := (List.takeWhile_prefix (l := p.addrs) (p := fun a => portAnswer port a == .data)).length_le
  omega

theorem FramePlan.emittable_le (p : FramePlan) (s : State) : p.emittable s ≤ (p.bytes s.mem).length :=
  Nat.le_trans (acceptCount_le _ _) (p.readable_le _ _)

/-! ### Running a command -/

/-- Everything a WRFRAME that passed its checks can do when it gives a next state (41_serializer.md R130, R134, R136). -/
theorem runFrame_cases {p : FramePlan} {s t : State} (h : runFrame p s = .next t) :
    (p.earlyEnds s = [] ∧ t = (s.emitted (p.bytes s.mem)).finish .ok) ∨
    (p.refused s = true ∧
      t = ((((s.emitted ((p.bytes s.mem).take (p.emittable s))).withStreamErr true).withSink
        (s.sink.drop (p.emittable s + 1))).drew).finish .io) ∨
    (p.hasError s = true ∧ ∃ k, k ≤ p.emittable s ∧
      t = (((s.emitted ((p.bytes s.mem).take k)).withStreamErr (s.status.streamErr || decide (0 < k))).drew).finish
        .busError) ∨
    (p.unanswered s = true ∧ t = s.drew) := by
  unfold runFrame at h
  split at h
  · cases h
  · split at h
    · next hd => exact .inl ⟨drawEarlyEnd_eq_none.mp hd, by simpa using h⟩
    · next hd =>
      refine .inr (.inl ⟨?_, by simpa using h⟩)
      have := drawEarlyEnd_mem hd
      by_contra hc
      simp [FramePlan.earlyEnds, hc] at this
    · next hd =>
      refine .inr (.inr (.inl ⟨?_, _, drawnPrefix_le s.draws _, by simpa using h⟩))
      have := drawEarlyEnd_mem hd
      by_contra hc
      simp [FramePlan.earlyEnds, hc] at this
    · next hd =>
      refine .inr (.inr (.inr ⟨?_, by simpa [eq_comm] using h⟩))
      have := drawEarlyEnd_mem hd
      by_contra hc
      simp [FramePlan.earlyEnds, hc] at this

/-- Everything a PACK or UNPACK that passed its checks can do when it gives a next state (42_codec.md R170 to R172). -/
theorem runCodec_cases {p : CodecPlan} {s t : State} (h : runCodec p s = .next t) :
    (p.earlyEnds s.port = [] ∧
      t = ((s.withMem (s.mem.writeAll (settledWrites s.draws p.cells))).drew).finish .ok) ∨
    ((∃ a ∈ p.touched, portAnswer s.port a = .error) ∧
      t = ((s.withMem (s.mem.writeAll (partialWrites s.draws p.cells))).drew).finish .busError) ∨
    ((∃ a ∈ p.touched, portAnswer s.port a = .silent) ∧ t = s.drew) := by
  unfold runCodec at h
  split at h
  · cases h
  · split at h
    · next hd => exact .inl ⟨drawEarlyEnd_eq_none.mp hd, by simpa using h⟩
    · next hd =>
      refine .inr (.inl ⟨?_, by simpa using h⟩)
      have := drawEarlyEnd_mem hd
      by_contra hc
      have hf : (p.touched.any fun a => portAnswer s.port a == .error) = false := by
        simpa using fun a ha he => hc ⟨a, ha, he⟩
      simp [CodecPlan.earlyEnds, hf] at this
    · next hd =>
      refine .inr (.inr ⟨?_, by simpa [eq_comm] using h⟩)
      have := drawEarlyEnd_mem hd
      by_contra hc
      have hf : (p.touched.any fun a => portAnswer s.port a == .silent) = false := by
        simpa using fun a ha he => hc ⟨a, ha, he⟩
      simp [CodecPlan.earlyEnds, hf] at this

/-- A codec command whose every touched address the port serves can come to no early end. -/
theorem CodecPlan.earlyEnds_of_served {p : CodecPlan} {port : List (Nat × PortAnswer)}
    (h : ∀ a ∈ p.touched, portAnswer port a = .data) : p.earlyEnds port = [] := by
  have h1 : (p.touched.any fun a => portAnswer port a == .error) = false := by
    simpa using fun a ha => by simp [h a ha]
  have h2 : (p.touched.any fun a => portAnswer port a == .silent) = false := by
    simpa using fun a ha => by simp [h a ha]
  simp [CodecPlan.earlyEnds, h1, h2]

/-- Everything the engine's turn can be (30_encoding.md R81). -/
theorem engineTurn_cases (s : State) :
    (s.inFlight = none ∧ engineTurn s = .next s) ∨
    (∃ w r, s.inFlight = some w ∧ decode w = .error r ∧ engineTurn s = raise .illegalCommand s) ∨
    (∃ w i, s.inFlight = some w ∧ decode w = .ok i ∧ engineTurn s = exec i s) := by
  unfold engineTurn
  cases hw : s.inFlight with
  | none => exact .inl ⟨rfl, rfl⟩
  | some w =>
    cases hd : decode w with
    | error r => exact .inr (.inl ⟨w, r, rfl, hd, by simp [hd]⟩)
    | ok i => exact .inr (.inr ⟨w, i, rfl, hd, by simp [hd]⟩)

/-- A bus access that begins outside the register window, where it gives a next state, reaches no register and changes
nothing (10_state.md R20). -/
theorem outsideMove_cases {addr bytes : Nat} {s t : State} (h : outsideMove addr bytes s = .next t) :
    reachesWindow s addr bytes = false ∧ t = s := by
  unfold outsideMove at h
  split at h
  · cases h
  · next hr => exact ⟨by simpa using hr, by simpa [eq_comm] using h⟩

/-- Everything a reset can leave (70_reset_and_hazards.md R230, R231): the block at its reset values, with the memory
and the stream as they were, or with a prefix of a WRFRAME's bytes accepted, or with a part of the destination bytes of a
PACK or UNPACK written. -/
theorem resetMove_cases {s t : State} (h : resetMove s = .next t) :
    t = s.blockReset ∨
    (∃ p k, wrframePlan s = .ok p ∧ k ≤ (p.bytes s.mem).length ∧
      t = (((s.emitted ((p.bytes s.mem).take k)).withSink (s.sink.drop (min k (p.emittable s)))).drew).blockReset) ∨
    (∃ p, (packPlan s = .ok p ∨ unpackPlan s = .ok p) ∧
      t = ((s.withMem (s.mem.writeAll (partialWrites s.draws p.cells))).drew).blockReset) := by
  unfold resetMove at h
  split at h
  · split at h
    · exact .inl (by simpa [eq_comm] using h)
    · next p hp =>
      unfold abandonFrame at h
      split at h
      · cases h
      · exact .inr (.inl ⟨p, _, hp, drawnPrefix_le s.draws _, by simpa [eq_comm] using h⟩)
  · split at h
    · exact .inl (by simpa [eq_comm] using h)
    · next p hp =>
      unfold abandonCodec at h
      split at h
      · cases h
      · exact .inr (.inr ⟨p, .inl hp, by simpa [eq_comm] using h⟩)
  · split at h
    · exact .inl (by simpa [eq_comm] using h)
    · next p hp =>
      unfold abandonCodec at h
      split at h
      · cases h
      · exact .inr (.inr ⟨p, .inr hp, by simpa [eq_comm] using h⟩)
  all_goals exact .inl (by simpa [eq_comm] using h)

/-! ### The register bus -/

@[simp] theorem writeReg_params (r : Reg) (v : Word) (s : State) : (writeReg r v s).params = s.params := by
  cases r <;> rfl
@[simp] theorem writeReg_geom (r : Reg) (v : Word) (s : State) : (writeReg r v s).geom = s.geom := by cases r <;> rfl
@[simp] theorem writeReg_streamPos (r : Reg) (v : Word) (s : State) : (writeReg r v s).streamPos = s.streamPos := by
  cases r <;> rfl
@[simp] theorem writeReg_mem (r : Reg) (v : Word) (s : State) : (writeReg r v s).mem = s.mem := by cases r <;> rfl
@[simp] theorem writeReg_stream (r : Reg) (v : Word) (s : State) : (writeReg r v s).stream = s.stream := by
  cases r <;> rfl
@[simp] theorem writeReg_port (r : Reg) (v : Word) (s : State) : (writeReg r v s).port = s.port := by cases r <;> rfl
@[simp] theorem writeReg_sink (r : Reg) (v : Word) (s : State) : (writeReg r v s).sink = s.sink := by cases r <;> rfl
@[simp] theorem writeReg_events (r : Reg) (v : Word) (s : State) : (writeReg r v s).events = s.events := by
  cases r <;> rfl
@[simp] theorem writeReg_seen (r : Reg) (v : Word) (s : State) : (writeReg r v s).seen = s.seen := by cases r <;> rfl
@[simp] theorem writeReg_draws (r : Reg) (v : Word) (s : State) : (writeReg r v s).draws = s.draws := by
  cases r <;> rfl

/-- A host write of a register issues a command at CMD and leaves the engine and STATUS alone anywhere else
(10_state.md R23). -/
theorem writeReg_engine (r : Reg) (v : Word) (s : State) :
    (r = .cmd ∧ writeReg r v s = s.issue v) ∨
      ((writeReg r v s).inFlight = s.inFlight ∧ (writeReg r v s).status = s.status) := by
  cases r
  case cmd => exact .inl ⟨rfl, rfl⟩
  all_goals exact .inr ⟨rfl, rfl⟩

/-- The register map lists 64-bit registers at offsets that are multiples of 8 (10_state.md R20). -/
theorem regMap_aligned : ∀ row ∈ regMap, row.1 % 8 = 0 := by decide

end Sys2Proof.Machine
end

