-- ==== Sys2Proof/Laws/PerInstr.lean ====
section
/-! SUPPORT. Statements made per instruction. -/

namespace Sys2Proof.Laws

/-- A command is well formed, its word is a command word, and the word decodes to it. -/
def WordOf.Statement (i : Instr) : Prop :=
  i.wellFormed = true ∧ isCommandWord (encode i) = true ∧ decode (encode i) = .ok i

theorem WordOf.nop : WordOf.Statement .nop := ⟨rfl, rfl, rfl⟩
theorem WordOf.geomFile : WordOf.Statement .geomFile := ⟨rfl, rfl, rfl⟩
theorem WordOf.geomMem : WordOf.Statement .geomMem := ⟨rfl, rfl, rfl⟩
theorem WordOf.fcount : WordOf.Statement .fcount := ⟨rfl, rfl, rfl⟩
theorem WordOf.wrframe : WordOf.Statement .wrframe := ⟨rfl, rfl, rfl⟩
theorem WordOf.strclr : WordOf.Statement .strclr := ⟨rfl, rfl, rfl⟩
theorem WordOf.blkpack16le : WordOf.Statement .blkpack16le := ⟨rfl, rfl, rfl⟩
theorem WordOf.blkpack16be : WordOf.Statement .blkpack16be := ⟨rfl, rfl, rfl⟩
theorem WordOf.blkpack8 : WordOf.Statement .blkpack8 := ⟨rfl, rfl, rfl⟩
theorem WordOf.blkunpack16le : WordOf.Statement .blkunpack16le := ⟨rfl, rfl, rfl⟩
theorem WordOf.blkunpack16be : WordOf.Statement .blkunpack16be := ⟨rfl, rfl, rfl⟩
theorem WordOf.blkunpack8 : WordOf.Statement .blkunpack8 := ⟨rfl, rfl, rfl⟩
theorem WordOf.pack : WordOf.Statement .pack := ⟨rfl, rfl, rfl⟩
theorem WordOf.unpack : WordOf.Statement .unpack := ⟨rfl, rfl, rfl⟩

end Sys2Proof.Laws
end

