-- ==== Sys2Proof/Tests/Slice0.lean ====
section
/-! SUPPORT. The model's own tests. Every expected value is one of spec/95_test_vectors.md (its vector is named), or of
the encoding table 30_encoding.md R82. -/

namespace Sys2Proof.Tests

open Sys2Proof.Machine

-- One theorem after another: so many kernel evaluations at once would each hold a thread.
set_option Elab.async false

/-! ### Helpers -/

/-- The state of a next outcome. -/
def nextState (o : Host.Outcome State Fault Refusal) : Option State :=
  match o with
  | .next s => some s
  | .fault _ => none
  | .refused _ => none

/-- The fault of an outcome. -/
def faultOf (o : Host.Outcome State Fault Refusal) : Option Fault :=
  match o with
  | .next _ => none
  | .fault r => some r
  | .refused _ => none

/-- One value for each OPEN parameter; 0x4D30.. stand for the marker bytes M0..M5. -/
def testParams (addrW : Nat) (u8 : Config.RoundOverflow) : Config.Params where
  addrW := addrW
  regBase := 0x10000
  frameMarker := #v[0x4D, 0x30, 0x31, 0x32, 0x33, 0x34]
  u8RoundOverflow := u8
  devices := []

/-- The block after reset, ADDR_W = 64. -/
def base : State := { State.reset with params := testParams 64 .wrap }

def planeRegs (addr stride len : Nat) : PlaneRegs where
  addr := BitVec.ofNat 64 addr
  stride := BitVec.ofNat 64 stride
  len := BitVec.ofNat 64 len

def frameRegs (fmt w h : Nat) (p0 p1 p2 : PlaneRegs) : FrameRegs where
  fmt := BitVec.ofNat 64 fmt
  w := BitVec.ofNat 64 w
  h := BitVec.ofNat 64 h
  p0 := p0
  p1 := p1
  p2 := p2

/-- The block configured with a format and a resolution. -/
def configured (fmt w h : Nat) : State :=
  { base with cfg := { fmt := BitVec.ofNat 64 fmt, w := BitVec.ofNat 64 w, h := BitVec.ofNat 64 h } }

def memOf (chunks : List (Nat × List Byte)) : Memory :=
  chunks.foldl (fun m c => m.writeAll (cellsAt c.1 c.2)) []

def bytesAt (m : Memory) (a n : Nat) : List Byte := (List.range n).map fun i => m.read (a + i)

def blkIn (a b c d : Nat) : State :=
  { base with blk := { base.blk with
      in0 := BitVec.ofNat 64 a, in1 := BitVec.ofNat 64 b, in2 := BitVec.ofNat 64 c, in3 := BitVec.ofNat 64 d } }

def blkPk (v : Nat) : State := { base with blk := { base.blk with pk := BitVec.ofNat 64 v } }

def blkOuts (o : Host.Outcome State Fault Refusal) : Option (List Nat) :=
  (nextState o).map fun t => [t.blk.out0.toNat, t.blk.out1.toNat, t.blk.out2.toNat, t.blk.out3.toNat]

/-! ### Words: the smoke test of WellFormed, and decoding -/

/-- D4: RSVD bit 8 set under a NOP opcode. -/
theorem test_wf_refuses_reserved_bits : rsvdIsZero 0x100#64 = false ∧ isCommandWord 0x100#64 = false := by decide

/-- D2: an unassigned opcode. -/
theorem test_wf_refuses_unassigned_opcode : opcIsAssigned 0x04#64 = false ∧ isCommandWord 0x04#64 = false := by decide

/-- The word column of 30_encoding.md R82, every command. -/
theorem test_decode_words :
    decode 0x0000000000000000#64 = .ok .nop ∧ decode 0x0000000000000001#64 = .ok .geomFile ∧
    decode 0x0000000000000002#64 = .ok .geomMem ∧ decode 0x0000000000000003#64 = .ok .fcount ∧
    decode 0x0000000000000010#64 = .ok .wrframe ∧ decode 0x0000000000000011#64 = .ok .strclr ∧
    decode 0x0000000000000020#64 = .ok .blkpack16le ∧ decode 0x0000000000000021#64 = .ok .blkpack16be ∧
    decode 0x0000000000000022#64 = .ok .blkpack8 ∧ decode 0x0000000000000028#64 = .ok .blkunpack16le ∧
    decode 0x0000000000000029#64 = .ok .blkunpack16be ∧ decode 0x000000000000002A#64 = .ok .blkunpack8 ∧
    decode 0x0000000000000030#64 = .ok .pack ∧ decode 0x0000000000000031#64 = .ok .unpack :=
  ⟨rfl, rfl, rfl, rfl, rfl, rfl, rfl, rfl, rfl, rfl, rfl, rfl, rfl, rfl⟩

/-- D3, D5, D6, D7. -/
theorem test_decode_rejects :
    decode 0xFF#64 = .error .unassignedOpcode ∧ decode 0x1FF#64 = .error .reservedBitsSet ∧
    decode 0x8000000000000030#64 = .error .reservedBitsSet ∧ decode 0x12#64 = .error .unassignedOpcode ∧
    decode 0x23#64 = .error .unassignedOpcode ∧ decode 0x2B#64 = .error .unassignedOpcode ∧
    decode 0x32#64 = .error .unassignedOpcode :=
  ⟨rfl, rfl, rfl, rfl, rfl, rfl, rfl⟩

/-- A table row's word, and a word that does not fit. -/
theorem test_decodeTableWord :
    decodeTableWord 64 0x2A = some .blkunpack8 ∧ decodeTableWord 64 0x4 = none ∧ decodeTableWord 72 (2 ^ 64) = none := by
  decide +kernel

/-! ### Running a command -/

/-- P5: PACK from reset is INVALID_ARGUMENT (C19); the step runs the word placed. -/
theorem test_step_from_reset_pack :
    (nextState (step (State.reset.withFetchWord 64 0x30))).map (·.statusWord) = some 0x102#64 := by decide +kernel

/-- D2: an illegal word completes with ILLEGAL_COMMAND. -/
theorem test_step_illegal_word :
    (nextState (step (State.reset.withFetchWord 64 0x4))).map (·.statusWord) = some 0x802#64 := by decide +kernel

/-- R23: a CMD write issues; P5's first line as a bus write. -/
theorem test_step_cmd_write_issues :
    (nextState (step { base with events := [.regWrite 0x10008 8 0x30#64] })).map
      (fun t => (t.statusWord, t.inFlight)) = some (0x1#64, some 0x30#64) := by decide +kernel

/-- R240 H1: a register write while BUSY faults. -/
theorem test_step_write_while_busy_faults :
    faultOf (step { base with inFlight := some 0#64, events := [.regWrite 0x10020 8 1#64] })
      = some .registerWriteWhileBusy := by decide +kernel

/-- R20: a narrow access faults. -/
theorem test_step_narrow_access_faults :
    faultOf (step { base with events := [.regRead 0x10010 4] }) = some .badRegisterAccess := by decide +kernel

/-- notes/assumptions/18.md: 8 bytes from REG_BASE - 4 reach into the window and fault, 8 bytes from REG_BASE - 8 do
not. -/
theorem test_step_straddling_access :
    faultOf (step { base with events := [.regRead 0xFFFC 8] }) = some .badRegisterAccess ∧
      (nextState (step { base with events := [.regRead 0xFFF8 8] })).map (·.seen) = some .nothing := by decide +kernel

/-- R22: ID reads its constant. -/
theorem test_step_reads_id :
    (nextState (step { base with events := [.regRead 0x10000 8] })).map (·.seen)
      = some (.word 0x5652415731300007#64) := by decide +kernel

/-- R240 H3: a write into a source window of a running PACK faults; P2's source. -/
theorem test_step_window_write_faults :
    faultOf (step { base with
      inFlight := some 0x30#64
      src := frameRegs 5 4 2 (planeRegs 0x1000 8 16) (planeRegs 0x1100 4 4) (planeRegs 0x1200 4 4)
      events := [.memWrite 0x100F 1#8] }) = some .windowWriteWhileBusy := by decide +kernel

/-- R246: a port that never answers leaves the command in flight. -/
theorem test_step_silent_port_waits :
    (nextState (step { configured 13 8 1 with
      inFlight := some 0x10#64
      src := frameRegs 13 8 1 (planeRegs 0x1000 16 10) (planeRegs 0x1100 16 16) (planeRegs 0 0 0)
      port := [(0x1003, .silent)] })).map (fun t => (t.statusWord, t.stream)) = some (0x1#64, []) := by decide +kernel

/-! ### Control -/

/-- D8: NOP after STATUS = 0x1_0602. -/
theorem test_nop_clears_err_keeps_stream_err :
    (nextState (exec .nop { base with status := { done := true, err := .io, streamErr := true } })).map (·.statusWord)
      = some 0x10002#64 := by decide +kernel

/-! ### Geometry -/

def geomRows (o : Host.Outcome State Fault Refusal) : Option (List Nat) :=
  (nextState o).map fun t =>
    [t.geom.nplanes.toNat,
     t.geom.p0.rowBytes.toNat, t.geom.p0.lines.toNat, t.geom.p0.stride.toNat, t.geom.p0.size.toNat,
     t.geom.p1.rowBytes.toNat, t.geom.p1.lines.toNat, t.geom.p1.stride.toNat, t.geom.p1.size.toNat,
     t.geom.p2.rowBytes.toNat, t.geom.p2.lines.toNat, t.geom.p2.stride.toNat, t.geom.p2.size.toNat,
     t.geom.frame.toNat]

/-- G16. -/
theorem test_geomFile_odd_sizes :
    geomRows (exec .geomFile (configured 2 7 5)) = some [3, 7, 5, 7, 35, 3, 2, 3, 6, 3, 2, 3, 6, 47] := by
  decide +kernel

/-- G4, and G20: a packed width must be a multiple of 4. -/
theorem test_geomFile_packed :
    geomRows (exec .geomFile (configured 13 1920 1080))
        = some [2, 2400, 1080, 2400, 2592000, 2400, 540, 2400, 1296000, 0, 0, 0, 0, 3888000] ∧
      (nextState (exec .geomFile (configured 13 6 2))).map (fun t => (t.statusWord, t.geom))
        = some (0x102#64, base.geom) := by decide +kernel

def alignAll (a b c : Nat) : AlignRegs :=
  let p : PlaneAlign := { stride := BitVec.ofNat 64 a, lines := BitVec.ofNat 64 b, size := BitVec.ofNat 64 c }
  { p0 := p, p1 := p, p2 := p }

/-- G7. -/
theorem test_geomMem_aligned :
    geomRows (exec .geomMem { configured 5 1920 1080 with align := alignAll 64 16 4096 })
      = some [3, 3840, 1080, 3840, 4177920, 1920, 540, 1920, 1044480, 1920, 540, 1920, 1044480, 6266880] := by
  decide +kernel

/-- G15 with plane 2's registers above MAX_ALIGN, which are not read (as in G26), and G25. -/
theorem test_geomMem_reads_only_its_planes :
    geomRows (exec .geomMem { configured 7 6 4 with align := { alignAll 3 3 5 with
        p2 := { stride := 0xFFFFFFFF#64, lines := 0, size := 0 } } })
        = some [2, 12, 4, 12, 75, 12, 2, 12, 40, 0, 0, 0, 0, 115] ∧
      (nextState (exec .geomMem { configured 5 4 2 with align := { alignAll 0 0 0 with
        p0 := { stride := 65536#64, lines := 0, size := 0 } } })).map (·.statusWord) = some 0x102#64 := by
  decide +kernel

def counted (fmt w h ctrl hdr len : Nat) : Option (Nat × Nat × Nat) :=
  (nextState (exec .fcount { configured fmt w h with
    ctrl := BitVec.ofNat 64 ctrl
    fc := { base.fc with hdr := BitVec.ofNat 64 hdr, len := BitVec.ofNat 64 len } })).map
    fun t => (t.statusWord.toNat, t.fc.extent.toNat, t.fc.count.toNat)

/-- F1 and F9. -/
theorem test_fcount_counts_extents :
    counted 1 4 2 1 20 74 = some (0x2, 18, 3) ∧ counted 5 4 2 1 0 60 = some (0x2, 30, 2) := by decide +kernel

/-- F2, F3 and F6. -/
theorem test_fcount_errors :
    counted 1 4 2 1 20 75 = some (0x302, 0, 0) ∧ counted 1 4 2 1 20 19 = some (0x302, 0, 0) ∧
      counted 3 4 2 1 0 0 = some (0x102, 0, 0) := by decide +kernel

/-! ### Serializer -/

/-- Program P3's first frame. -/
def frameP3 : State :=
  { configured 1 4 2 with
    ctrl := 1#64
    src := frameRegs 1 4 2 (planeRegs 0x4000 8 12) (planeRegs 0x4100 2 2) (planeRegs 0x4200 2 2)
    mem := memOf [(0x4000, [0x10, 0x11, 0x12, 0x13, 0xEE, 0xEE, 0xEE, 0xEE, 0x20, 0x21, 0x22, 0x23]),
      (0x4100, [0x30, 0x31]), (0x4200, [0x40, 0x41])] }

/-- W1. -/
theorem test_wrframe_marker_and_padding :
    (nextState (exec .wrframe frameP3)).map (fun t => (t.statusWord, t.streamPos, t.stream))
      = some (0x2#64, 18#64, [0x4D, 0x30, 0x31, 0x32, 0x33, 0x34, 0x10, 0x11, 0x12, 0x13, 0x20, 0x21, 0x22, 0x23,
          0x30, 0x31, 0x40, 0x41]) := by decide +kernel

/-- W13: the sink refuses the 5th byte of the frame. -/
theorem test_wrframe_sink_refusal :
    (nextState (exec .wrframe { frameP3 with sink := [.accept, .accept, .accept, .accept, .refuse, .accept] })).map
      (fun t => (t.statusWord, t.streamPos, t.stream, t.sink))
      = some (0x10602#64, 4#64, [0x4D, 0x30, 0x31, 0x32], [.accept]) := by decide +kernel

/-- W14, W15. -/
theorem test_strclr :
    (nextState (exec .strclr { base with
      status := { done := true, err := .io, streamErr := true }, streamPos := 36#64 })).map
      (fun t => (t.statusWord, t.streamPos)) = some (0x2#64, 0#64) := by decide +kernel

/-! ### Block codec -/

/-- B2. -/
theorem test_blkpack16le_masks :
    (nextState (exec .blkpack16le (blkIn 0xFFFF 0x0400 0x8001 0x03FF))).map (·.blk.pk) = some 0xFFC01003FF#64 := by
  decide +kernel

/-- B3. -/
theorem test_blkpack16le_ignores_high_bits :
    (nextState (exec .blkpack16le (blkIn 0xFFFFFFFFFFFF0155 0 0 0))).map (·.blk.pk) = some 0x155#64 := by decide +kernel

/-- B4. -/
theorem test_blkpack16be :
    (nextState (exec .blkpack16be (blkIn 0x0300 0xFF00 0x5501 0xAA02))).map (·.blk.pk) = some 0xAA9553FC03#64 := by
  decide +kernel

/-- B5. -/
theorem test_blkpack16be_top_bits :
    (nextState (exec .blkpack16be (blkIn 0xFF03 0 0 0))).map (·.blk.pk) = some 0x3FF#64 := by decide +kernel

/-- B8. -/
theorem test_blkpack8 :
    (nextState (exec .blkpack8 (blkIn 0x12 0x34 0x56 0x78))).map (·.blk.pk) = some 0x7815834048#64 := by decide +kernel

/-- B9. -/
theorem test_blkpack8_ignores_bit_8 :
    (nextState (exec .blkpack8 (blkIn 0x1FF 0 0 0))).map (·.blk.pk) = some 0x3FC#64 := by decide +kernel

/-- B11. -/
theorem test_blkunpack16le :
    blkOuts (exec .blkunpack16le (blkPk 0xFFFFFF123456789A)) = some [0x09A, 0x19E, 0x345, 0x048] := by decide +kernel

/-- B10. -/
theorem test_blkunpack16le_odd_components :
    blkOuts (exec .blkunpack16le (blkPk 0xFFC00FFC00)) = some [0x000, 0x3FF, 0x000, 0x3FF] := by decide +kernel

/-- B12. -/
theorem test_blkunpack16be :
    blkOuts (exec .blkunpack16be (blkPk 0xAA9553FC03)) = some [0x0300, 0xFF00, 0x5501, 0xAA02] := by decide +kernel

/-- B17. -/
theorem test_blkunpack8 :
    blkOuts (exec .blkunpack8 (blkPk 0x9A78563412)) = some [5, 99, 225, 154] := by decide +kernel

/-- B16, under wrap and under saturate. -/
theorem test_blkunpack8_overflow :
    blkOuts (exec .blkunpack8 (blkPk 0x3FF003FF)) = some [0, 0, 0, 0] ∧
      blkOuts (exec .blkunpack8 { blkPk 0x3FF003FF with params := testParams 64 .saturate })
        = some [255, 0, 255, 0] := by decide +kernel

/-! ### Frame codec -/

/-- Program P2, its PACK. -/
def packP2 : State :=
  { base with
    src := frameRegs 5 4 2 (planeRegs 0x1000 8 16) (planeRegs 0x1100 4 4) (planeRegs 0x1200 4 4)
    dst := frameRegs 13 4 2 (planeRegs 0x2000 8 13) (planeRegs 0x2100 8 5) (planeRegs 0 0 0)
    mem := memOf [(0x1000, [0x00, 0x00, 0xFF, 0x03, 0x55, 0x01, 0xAA, 0x02, 0x01, 0x00, 0x00, 0x02, 0xFF, 0x00, 0x00, 0x03]),
      (0x1100, [0x23, 0x01, 0xC0, 0x03]), (0x1200, [0x45, 0x00, 0xF0, 0x02]),
      (0x2000, [0xEE, 0xEE, 0xEE, 0xEE, 0xEE, 0xEE, 0xEE, 0xEE, 0xEE, 0xEE, 0xEE, 0xEE, 0xEE]),
      (0x2100, [0xEE, 0xEE, 0xEE, 0xEE, 0xEE])] }

/-- C1: rows, padding unchanged, chroma. -/
theorem test_pack_i420_10_to_nv12_packed :
    (nextState (exec .pack packP2)).map (fun t => (t.statusWord, bytesAt t.mem 0x2000 13, bytesAt t.mem 0x2100 5))
      = some (0x2#64, [0x00, 0xFC, 0x5F, 0x95, 0xAA, 0xEE, 0xEE, 0xEE, 0x01, 0x00, 0xF8, 0x0F, 0xC0],
          [0x23, 0x15, 0x01, 0x3C, 0xBC]) := by decide +kernel

/-- C11, C16 and C20. -/
theorem test_pack_errors :
    (nextState (exec .pack { packP2 with
        dst := frameRegs 13 4 2 (planeRegs 0x2000 5 10) (planeRegs 0x2009 5 5) (planeRegs 0 0 0) })).map
        (fun t => (t.statusWord, decide (t.mem = packP2.mem))) = some (0x102#64, true) ∧
      (nextState (exec .pack { packP2 with
        params := testParams 16 .wrap
        dst := frameRegs 13 4 2 (planeRegs 0xFFF8 5 10) (planeRegs 0x2100 5 5) (planeRegs 0 0 0) })).map
        (·.statusWord) = some 0x102#64 ∧
      (nextState (exec .pack { packP2 with
        src := { packP2.src with fmt := 1#64 }, dst := { packP2.dst with fmt := 1#64 } })).map
        (·.statusWord) = some 0x502#64 := by decide +kernel

/-- The packed frame of C1, to be unpacked. -/
def unpackP2 (fmt : Nat) (d0 d1 : PlaneRegs) (u8 : Config.RoundOverflow) : State :=
  { base with
    params := testParams 64 u8
    src := frameRegs 13 4 2 (planeRegs 0x2000 8 13) (planeRegs 0x2100 8 5) (planeRegs 0 0 0)
    dst := frameRegs fmt 4 2 d0 d1 (planeRegs 0 0 0)
    mem := memOf [(0x2000, [0x00, 0xFC, 0x5F, 0x95, 0xAA, 0xEE, 0xEE, 0xEE, 0x01, 0x00, 0xF8, 0x0F, 0xC0]),
      (0x2100, [0x23, 0x15, 0x01, 0x3C, 0xBC])] }

/-- C6. -/
theorem test_unpack_to_nv21_10_be :
    (nextState (exec .unpack (unpackP2 12 (planeRegs 0x3000 8 16) (planeRegs 0x3100 8 8) .wrap))).map
      (fun t => (t.statusWord, bytesAt t.mem 0x3000 16, bytesAt t.mem 0x3100 8))
      = some (0x2#64, [0x00, 0x00, 0x03, 0xFF, 0x01, 0x55, 0x02, 0xAA, 0x00, 0x01, 0x02, 0x00, 0x00, 0xFF, 0x03, 0x00],
          [0x00, 0x45, 0x01, 0x23, 0x02, 0xF0, 0x03, 0xC0]) := by decide +kernel

/-- C7, under saturate. -/
theorem test_unpack_to_nv21_8 :
    (nextState (exec .unpack (unpackP2 4 (planeRegs 0x5000 4 8) (planeRegs 0x5100 4 4) .saturate))).map
      (fun t => (bytesAt t.mem 0x5000 8, bytesAt t.mem 0x5100 4))
      = some ([0x00, 0xFF, 0x55, 0xAB, 0x00, 0x80, 0x40, 0xC0], [0x11, 0x49, 0xBC, 0xF0]) := by decide +kernel

end Sys2Proof.Tests
end

