-- ==== Sys2Proof/Tests/Witnesses.lean ====
section
/-! SUPPORT. For every obligation that has hypotheses, a concrete state that meets them all, at the ends of the ranges
its clauses speak of. A witness is named after its obligation. -/

namespace Sys2Proof.Tests

open Sys2Proof.Machine

-- One theorem after another: so many kernel evaluations at once would each hold a thread.
set_option Elab.async false

/-! ### Words, steps and the register bus -/

/-- A block with a word in flight and the engine to move. -/
def inFlightOf (w : Word) : State := { base with inFlight := some w }

/-- WordExecutesOneCommandOrIsIllegal: the last row's word, the reserved bits at both ends, and unassigned opcodes at both
sides of a group. -/
theorem witness_WordExecutesOneCommandOrIsIllegal :
    ((inFlightOf 0x31#64).events = [] ∧ (inFlightOf 0x31#64).inFlight = some 0x31#64 ∧
      (0x31#64).toNat / 256 = 0 ∧ (0x31#64).toNat % 256 = 0x31) ∧
    (0x131#64).toNat / 256 ≠ 0 ∧ (0x8000000000000000#64).toNat / 256 ≠ 0 ∧
    (∀ opc ∈ [0x00, 0x01, 0x02, 0x03, 0x10, 0x11, 0x20, 0x21, 0x22, 0x28, 0x29, 0x2A, 0x30, 0x31],
      (0x04#64).toNat % 256 ≠ opc ∧ (0x0F#64).toNat % 256 ≠ opc ∧ (0xFF#64).toNat % 256 ≠ opc) := by decide

/-- StepRunsDecodedCommand: with no other move pending, and with the engine's turn the oldest of two. -/
theorem witness_StepRunsDecodedCommand :
    (packP2.issue 0x30#64).inFlight = some 0x30#64 ∧ decode 0x30#64 = .ok .pack ∧ (packP2.issue 0x30#64).events = [] ∧
      (issuedNext 0x30#64 { packP2 with events := [.reset] }).events = .engine :: [.reset] ∧
      (issuedNext 0x30#64 { packP2 with events := [.reset] }).inFlight = some 0x30#64 := ⟨rfl, rfl, rfl, rfl, rfl⟩

/-- RegisterBusFollowsAccessRules: its clauses at the ends of the window and of the map's gaps. -/
theorem witness_RegisterBusFollowsAccessRules :
    base.inFlight = none ∧ (0x447 < 0x448 ∧ 0x447 % 8 ≠ 0) ∧ (0x440 % 8 = 0 ∧ regAt 0x440 = some .blkOut3) ∧
      (regAt 0x0A8 = none ∧ 0x0A8 % 8 = 0) ∧ (regAt 0x3F8 = none ∧ 0x3F8 % 8 = 0) ∧
      (regAt 0x000 = some .id ∧ Reg.id.access = .ro) ∧ (regAt 0x018 = some .ctrl ∧ Reg.ctrl.access = .rw) ∧
      (regAt 0x420 = some .blkPk ∧ Reg.blkPk.access = .rw) := by decide

/-- CmdWriteIssuesTheWord: an idle and a busy block. -/
theorem witness_CmdWriteIssuesTheWord :
    base.inFlight = none ∧ 0x31#64 = encode .unpack ∧ (inFlightOf 0x31#64).inFlight ≠ none := by decide

/-- RegisterDutiesWhileBusy: a register of each clause. -/
theorem witness_RegisterDutiesWhileBusy :
    (inFlightOf 0#64).inFlight ≠ none ∧ regAt 0x000 = some .id ∧ regAt 0x008 = some .cmd ∧
      regAt 0x010 = some .status ∧ regAt 0x440 = some .blkOut3 := by decide

/-- RegisterMapHasItsRows: offsets that no row has, in a gap and at both ends of the window. -/
theorem witness_RegisterMapHasItsRows :
    ∀ off ∈ [0x004, 0x0A8, 0x3F8, 0x448], ∀ row ∈ registerRows base, row.offset ≠ off := by decide +kernel

/-- A plane of the frame, as the format of the code has it, covers the address. -/
def Covered (fr : FrameRegs) (code : Word) (a : Nat) : Prop :=
  ∃ f p, registry code = some f ∧ p ∈ f.planes ∧
    (fr.plane p).addr.toNat ≤ a ∧ a < (fr.plane p).addr.toNat + (fr.plane p).len.toNat

/-- No plane covers an address, where the format is known. -/
theorem not_covered {fr : FrameRegs} {code : Word} {a : Nat} {f : Format} (hf : registry code = some f)
    (h : ∀ p ∈ f.planes,
      ¬((fr.plane p).addr.toNat ≤ a ∧ a < (fr.plane p).addr.toNat + (fr.plane p).len.toNat)) : ¬Covered fr code a := by
  rintro ⟨g, p, hg, hp, hc⟩
  rw [hf] at hg
  cases hg
  exact h p hp hc

/-- MemoryAndStreamDutiesWhileBusy, PACK: P2's plane 0 windows, at their first and last bytes and just outside. -/
theorem witness_MemoryAndStreamDutiesWhileBusy_pack :
    (packP2.issue (encode .pack)).inFlight = some (encode .pack) ∧ 0x2100 < 2 ^ packP2.params.addrW ∧
      (Covered packP2.src packP2.src.fmt 0x1000 ∧ Covered packP2.src packP2.src.fmt 0x100F ∧
        ¬Covered packP2.dst packP2.dst.fmt 0x100F) ∧
      (Covered packP2.dst packP2.dst.fmt 0x2000 ∧ Covered packP2.dst packP2.dst.fmt 0x200C) ∧
      ¬Covered packP2.src packP2.src.fmt 0x1010 ∧ ¬Covered packP2.dst packP2.dst.fmt 0x1010 := by
  refine ⟨rfl, by decide, ⟨⟨_, .p0, rfl, ?_, ?_⟩, ⟨_, .p0, rfl, ?_, ?_⟩, not_covered rfl ?_⟩,
    ⟨⟨_, .p0, rfl, ?_, ?_⟩, ⟨_, .p0, rfl, ?_, ?_⟩⟩, not_covered rfl ?_, not_covered rfl ?_⟩ <;> decide +kernel

/-- P3's WRFRAME, issued, with DST at its reset value. -/
def busyFrame : State := frameP3.issue (encode .wrframe)

/-- The same with a SRC_FMT that no format has. -/
def busyOtherFormat : State := { busyFrame with src := { busyFrame.src with fmt := 0 } }

/-- MemoryAndStreamDutiesWhileBusy, WRFRAME: the last byte of its plane 0 window, and the first after it, with a
destination format at its reset value, and with a source format other than the configured one. -/
theorem witness_MemoryAndStreamDutiesWhileBusy_wrframe :
    (busyFrame.inFlight = some (encode .wrframe) ∧ registry busyFrame.dst.fmt = none ∧
      0x400C < 2 ^ busyFrame.params.addrW) ∧
    (Covered busyFrame.src busyFrame.cfg.fmt 0x400B ∧ ¬Covered busyFrame.src busyFrame.cfg.fmt 0x400C) ∧
    busyOtherFormat.cfg.fmt ≠ busyOtherFormat.src.fmt ∧
      Covered busyOtherFormat.src busyOtherFormat.cfg.fmt 0x400B := by
  refine ⟨⟨rfl, rfl, by decide⟩, ⟨⟨_, .p0, rfl, ?_, ?_⟩, not_covered rfl ?_⟩, ?_, ⟨_, .p0, rfl, ?_, ?_⟩⟩ <;>
    decide +kernel

/-- MemoryAndStreamMovesOutsideFrames: an idle block with a stream of one byte, read at it and past it; the ends of the
address space; a NOP in flight; and a canonical memory. -/
theorem witness_MemoryAndStreamMovesOutsideFrames :
    (base.inFlight = none ∧ ({ base with stream := [7#8] } : State).stream[0]? = some 7#8 ∧
      ({ base with stream := [7#8] } : State).stream.length ≤ 1) ∧
    (2 ^ base.params.addrW ≤ 2 ^ 64 ∧ 2 ^ 64 - 1 < 2 ^ base.params.addrW) ∧
    (base.inFlight ≠ some (encode .pack) ∧ base.inFlight ≠ some (encode .unpack) ∧
      base.inFlight ≠ some (encode .wrframe)) ∧
    ((inFlightOf 0#64).inFlight ≠ none ∧ (inFlightOf 0#64).inFlight ≠ some (encode .pack) ∧
      (inFlightOf 0#64).inFlight ≠ some (encode .unpack) ∧ (inFlightOf 0#64).inFlight ≠ some (encode .wrframe)) ∧
    packP2.mem.wf = true := by decide +kernel

/-! ### The checks of frames -/

/-- Two planes whose windows do not meet. -/
theorem planesApart_of_le {a b : PlaneRegs}
    (h : a.addr.toNat + a.len.toNat ≤ b.addr.toNat ∨ b.addr.toNat + b.len.toNat ≤ a.addr.toNat) : PlanesApart a b := by
  intro x hx
  omega

/-- FrameChecks: P3's frame. -/
theorem frameP3_checks : frameP3.FrameChecks (.unpacked .planar .k8 .uFirst) := by
  refine ⟨rfl, ⟨by decide +kernel, by decide +kernel, by decide +kernel, ?_⟩, by decide +kernel, by decide +kernel,
    by decide +kernel, ?_⟩
  · intro o h
    cases h
  · unfold WindowHolds
    decide +kernel

/-- P3's frame in memory without devices, with a port and a sink that serve it: WrframeAppendsTheFrame. -/
theorem witness_WrframeAppendsTheFrame :
    frameP3.FrameChecks (.unpacked .planar .k8 .uFirst) ∧
      hitsDevice frameP3.params.devices (frameWindows frameP3.src (.unpacked .planar .k8 .uFirst)) = false ∧
      frameP3.PortServes (frameAddrs frameP3.src (.unpacked .planar .k8 .uFirst) frameP3.cfg.w.toNat frameP3.cfg.h.toNat) ∧
      frameP3.SinkTakes (frameP3.frameOnStream (.unpacked .planar .k8 .uFirst)).length ∧
      frameP3.streamPos.toNat + (frameP3.frameOnStream (.unpacked .planar .k8 .uFirst)).length < 2 ^ 64 := by
  refine ⟨frameP3_checks, by decide +kernel, ?_, ?_, by decide +kernel⟩
  · unfold State.PortServes
    decide +kernel
  · unfold State.SinkTakes
    decide +kernel

/-- WrframeRefusesBadFrames: STREAM_ERR set; and a source format that differs from the configured one. -/
theorem witness_WrframeRefusesBadFrames :
    ({ frameP3 with status := { done := true, err := .io, streamErr := true } } : State).status.streamErr = true ∧
      ∀ f, ¬({ frameP3 with src := { frameP3.src with fmt := 2#64 } } : State).FrameChecks f := by
  refine ⟨rfl, ?_⟩
  rintro f ⟨-, -, -, h, -, -⟩
  exact absurd h (by decide +kernel)

/-- P3's frame with a sink that refuses at byte n. -/
def refusedAt (n : Nat) : State := { frameP3 with sink := List.replicate n .accept ++ [.refuse] }

/-- SinkRefusalTruncatesTheFrame: the refusal of the first and of the last of the 18 bytes. -/
theorem witness_SinkRefusalTruncatesTheFrame :
    (∀ n, (refusedAt n).FrameChecks (.unpacked .planar .k8 .uFirst)) ∧
    ∀ n ∈ [0, 17], n < ((refusedAt n).frameOnStream (.unpacked .planar .k8 .uFirst)).length ∧
      (∀ i, i < n → (refusedAt n).sink[i]? = some .accept) ∧ (refusedAt n).sink[n]? = some .refuse ∧
      hitsDevice (refusedAt n).params.devices
        (frameWindows (refusedAt n).src (.unpacked .planar .k8 .uFirst)) = false ∧
      (refusedAt n).PortServes
        (frameAddrs (refusedAt n).src (.unpacked .planar .k8 .uFirst) 4 2) := by
  refine ⟨fun _ => frameP3_checks, ?_⟩
  unfold State.PortServes
  decide +kernel

/-- P3's frame with a port that answers one address so. -/
def answeredAt (a : Nat) (x : PortAnswer) : State := { frameP3 with port := [(a, x)] }

/-- BusErrorLeavesAPrefix: an error at the first and at the last byte of the frame, with a sink that lists no answer, and
with one that lists two. -/
theorem witness_BusErrorLeavesAPrefix :
    (∀ a, (answeredAt a .error).FrameChecks (.unpacked .planar .k8 .uFirst) ∧ (∀ x ∈ (answeredAt a .error).sink, x = .accept) ∧
      hitsDevice (answeredAt a .error).params.devices
        (frameWindows (answeredAt a .error).src (.unpacked .planar .k8 .uFirst)) = false) ∧
    (∀ a, ({ answeredAt a .error with sink := [.accept, .accept] } : State).FrameChecks
      (.unpacked .planar .k8 .uFirst) ∧ ∀ x ∈ [SinkAnswer.accept, .accept], x = .accept) ∧
    ∀ bad ∈ [0x4000, 0x4201],
      (∀ a ∈ frameAddrs (answeredAt bad .error).src (.unpacked .planar .k8 .uFirst) 4 2,
        portAnswer (answeredAt bad .error).port a ≠ .silent) ∧
      ∃ a ∈ frameAddrs (answeredAt bad .error).src (.unpacked .planar .k8 .uFirst) 4 2,
        portAnswer (answeredAt bad .error).port a = .error := by
  refine ⟨fun _ => ⟨frameP3_checks, fun _ hx => absurd hx List.not_mem_nil, rfl⟩, fun _ => ⟨frameP3_checks, by decide⟩, ?_⟩
  decide +kernel

/-- The configuration of P2's PACK passes every check. -/
theorem packP2_checks : packP2.CodecChecks (.unpacked .planar .le16 .uFirst) (.packed .uFirst) := by
  refine ⟨⟨by decide +kernel, by decide +kernel, by decide +kernel, ?_⟩,
    ⟨by decide +kernel, by decide +kernel, by decide +kernel, ?_⟩, by decide +kernel, by decide +kernel, ?_, ?_, ?_, ?_⟩
  · intro o h
    cases h
  · intro o _
    decide +kernel
  · unfold WindowHolds
    decide +kernel
  · unfold WindowHolds
    decide +kernel
  · intro p hp q hq hne
    cases p <;> cases q <;> first
      | exact absurd rfl hne
      | exact absurd hp (by decide +kernel)
      | exact absurd hq (by decide +kernel)
      | exact planesApart_of_le (by decide +kernel)
  · intro p hp q hq
    cases p <;> cases q <;> first
      | exact absurd hp (by decide +kernel)
      | exact absurd hq (by decide +kernel)
      | exact planesApart_of_le (by decide +kernel)

/-- The rows of P2's packed frame stand apart. -/
theorem packP2_rows : RowsApart packP2.dst (.packed .uFirst) 4 := by
  unfold RowsApart
  decide +kernel

/-- PackWritesThePackedFrame: P2's PACK. -/
theorem witness_PackWritesThePackedFrame :
    packP2.CodecChecks (.unpacked .planar .le16 .uFirst) (.packed .uFirst) ∧
      packP2.CodecInMemory (.unpacked .planar .le16 .uFirst) (.packed .uFirst) ∧ packP2.mem.wf = true ∧
      packP2.PortServes (frameAddrs packP2.src (.unpacked .planar .le16 .uFirst) 4 2 ++
        frameAddrs packP2.dst (.packed .uFirst) 4 2) ∧
      RowsApart packP2.dst (.packed .uFirst) packP2.src.w.toNat := by
  refine ⟨packP2_checks, ?_, by decide +kernel, ?_, packP2_rows⟩
  · unfold State.CodecInMemory
    decide +kernel
  · unfold State.PortServes
    decide +kernel

/-- C6's UNPACK, to code 12. -/
def unpackC6 : State := unpackP2 12 (planeRegs 0x3000 8 16) (planeRegs 0x3100 8 8) .wrap

/-- The configuration of C6 passes every check. -/
theorem unpackC6_checks : unpackC6.CodecChecks (.packed .uFirst) (.unpacked .semiPlanar .be16 .vFirst) := by
  refine ⟨⟨by decide +kernel, by decide +kernel, by decide +kernel, ?_⟩,
    ⟨by decide +kernel, by decide +kernel, by decide +kernel, ?_⟩, by decide +kernel, by decide +kernel, ?_, ?_, ?_, ?_⟩
  · intro o _
    decide +kernel
  · intro o h
    cases h
  · unfold WindowHolds
    decide +kernel
  · unfold WindowHolds
    decide +kernel
  · intro p hp q hq hne
    cases p <;> cases q <;> first
      | exact absurd rfl hne
      | exact absurd hp (by decide +kernel)
      | exact absurd hq (by decide +kernel)
      | exact planesApart_of_le (by decide +kernel)
  · intro p hp q hq
    cases p <;> cases q <;> first
      | exact absurd hp (by decide +kernel)
      | exact absurd hq (by decide +kernel)
      | exact planesApart_of_le (by decide +kernel)

/-- UnpackWritesTheUnpackedFrame: C6's UNPACK, and a last chroma element. -/
theorem witness_UnpackWritesTheUnpackedFrame :
    unpackC6.CodecChecks (.packed .uFirst) (.unpacked .semiPlanar .be16 .vFirst) ∧
      unpackC6.CodecInMemory (.packed .uFirst) (.unpacked .semiPlanar .be16 .vFirst) ∧ unpackC6.mem.wf = true ∧
      unpackC6.PortServes (frameAddrs unpackC6.src (.packed .uFirst) 4 2 ++
        frameAddrs unpackC6.dst (.unpacked .semiPlanar .be16 .vFirst) 4 2) ∧
      RowsApart unpackC6.dst (.unpacked .semiPlanar .be16 .vFirst) unpackC6.src.w.toNat ∧
      (ElementAt.chroma 0 1 .v).inFrame 4 2 ∧ (ElementAt.luma 1 3).inFrame 4 2 := by
  refine ⟨unpackC6_checks, ?_, by decide +kernel, ?_, ?_, ?_, ?_⟩
  · unfold State.CodecInMemory
    decide +kernel
  · unfold State.PortServes
    decide +kernel
  · unfold RowsApart
    decide +kernel
  · exact ⟨by decide, by decide⟩
  · exact ⟨by decide, by decide⟩

/-- MemoryAndStreamDutiesWhileBusy, UNPACK: C6's plane 0 windows, at their last bytes and just outside. -/
theorem witness_MemoryAndStreamDutiesWhileBusy_unpack :
    (unpackC6.issue (encode .unpack)).inFlight = some (encode .unpack) ∧
      Covered unpackC6.src unpackC6.src.fmt 0x200C ∧ Covered unpackC6.dst unpackC6.dst.fmt 0x300F ∧
      ¬Covered unpackC6.src unpackC6.src.fmt 0x3010 ∧ ¬Covered unpackC6.dst unpackC6.dst.fmt 0x3010 := by
  refine ⟨rfl, ⟨_, .p0, rfl, ?_, ?_⟩, ⟨_, .p0, rfl, ?_, ?_⟩, not_covered rfl ?_, not_covered rfl ?_⟩ <;> decide +kernel

/-- A state with P2's geometry and two format codes. -/
def codes (n m : Nat) : State :=
  { packP2 with
    src := { packP2.src with fmt := BitVec.ofNat 64 n }, dst := { packP2.dst with fmt := BitVec.ofNat 64 m } }

/-- Formats 5 and 13, or 13 and 5, with destination widths that differ from the source's. -/
def narrowed (n m : Nat) : State := { codes n m with dst := { (codes n m).dst with w := 8#64 } }

/-- CodecRefusesBadFrames: each clause, at the ends of the two groups of codes. -/
theorem witness_CodecRefusesBadFrames :
    (¬(1 ≤ (codes 0 13).src.fmt.toNat ∧ (codes 0 13).src.fmt.toNat ≤ 14)) ∧
      (¬(1 ≤ (codes 1 15).dst.fmt.toNat ∧ (codes 1 15).dst.fmt.toNat ≤ 14)) ∧
      ((codes 12 12).src.fmt.toNat = 12 ∧ (codes 12 12).dst.fmt.toNat = 12) ∧
      ((codes 13 14).src.fmt.toNat = 13 ∧ (codes 13 14).dst.fmt.toNat = 14) ∧
      ((narrowed 12 13).src.fmt.toNat = 12 ∧ (narrowed 12 13).dst.fmt.toNat = 13 ∧
        ∀ fs fd, ¬(narrowed 12 13).CodecChecks fs fd) ∧
      ((narrowed 14 1).src.fmt.toNat = 14 ∧ (narrowed 14 1).dst.fmt.toNat = 1 ∧
        ∀ fs fd, ¬(narrowed 14 1).CodecChecks fs fd) := by
  refine ⟨by decide +kernel, by decide +kernel, by decide +kernel, by decide +kernel,
    ⟨by decide +kernel, by decide +kernel, ?_⟩, by decide +kernel, by decide +kernel, ?_⟩
  · rintro fs fd ⟨-, -, h, -⟩
    exact absurd h (by decide +kernel)
  · rintro fs fd ⟨-, -, h, -⟩
    exact absurd h (by decide +kernel)

/-- What P2's PACK would do. -/
def planP2 : CodecPlan where
  reads := frameAddrs packP2.src (.unpacked .planar .le16 .uFirst) 4 2
  cells := packCells packP2.mem packP2.src packP2.dst .planar .le16 .uFirst .uFirst 4 2
  windows := frameWindows packP2.src (.unpacked .planar .le16 .uFirst) ++ frameWindows packP2.dst (.packed .uFirst)

/-- P2's PACK with a port that answers one address with an error. -/
def packErrorAt (a : Nat) : State := { packP2 with port := [(a, .error)] }

/-- CodecBusErrorLeavesASubset: P2's PACK with an error at its first read, and at its last write. -/
theorem witness_CodecBusErrorLeavesASubset :
    ∀ bad ∈ [0x1000, 0x2104], packPlan (packErrorAt bad) = .ok planP2 ∧
      hitsDevice (packErrorAt bad).params.devices planP2.windows = false ∧ (packErrorAt bad).mem.wf = true ∧
      (∀ a ∈ planP2.touched, portAnswer (packErrorAt bad).port a ≠ .silent) ∧
      ∃ a ∈ planP2.touched, portAnswer (packErrorAt bad).port a = .error := by
  decide +kernel

/-- P3's frame with a sink that answers n bytes and leaves the next one without an answer. -/
def unansweredAt (n : Nat) : State := { frameP3 with sink := List.replicate n .accept ++ [.silent] }

/-- UnansweredAccessWaits, WRFRAME: the last read without an answer; the first, and the last, byte offered without an
answer. -/
theorem witness_UnansweredAccessWaits_wrframe :
    ((answeredAt 0x4201 .silent).FrameChecks (.unpacked .planar .k8 .uFirst) ∧
      hitsDevice (answeredAt 0x4201 .silent).params.devices
        (frameWindows (answeredAt 0x4201 .silent).src (.unpacked .planar .k8 .uFirst)) = false ∧
      (∀ x ∈ (answeredAt 0x4201 .silent).sink, x ≠ .refuse) ∧
      (∀ a ∈ frameAddrs frameP3.src (.unpacked .planar .k8 .uFirst) 4 2,
        portAnswer (answeredAt 0x4201 .silent).port a ≠ .error) ∧
      ∃ a ∈ frameAddrs frameP3.src (.unpacked .planar .k8 .uFirst) 4 2,
        portAnswer (answeredAt 0x4201 .silent).port a = .silent) ∧
    ∀ n ∈ [0, 17], n < ((unansweredAt n).frameOnStream (.unpacked .planar .k8 .uFirst)).length ∧
      (∀ i, i < n → (unansweredAt n).sink[i]? = some .accept) ∧ (unansweredAt n).sink[n]? = some .silent ∧
      (unansweredAt n).PortServes (frameAddrs (unansweredAt n).src (.unpacked .planar .k8 .uFirst) 4 2) := by
  refine ⟨⟨frameP3_checks, by decide +kernel, by decide +kernel, by decide +kernel, by decide +kernel⟩, ?_⟩
  unfold State.PortServes
  decide +kernel

/-- A port with one silent address gives no error. -/
theorem silent_port_no_error (b a : Nat) : portAnswer [(b, .silent)] a ≠ .error := by
  unfold portAnswer portAnswer
  split
  · decide
  · decide

/-- UnansweredAccessWaits, PACK and UNPACK: the last source read, and the last destination write, without an answer. -/
theorem witness_UnansweredAccessWaits_codec :
    (∀ b a, portAnswer [(b, .silent)] a ≠ .error) ∧
    (∀ b, ({ packP2 with port := [(b, .silent)] } : State).CodecChecks
        (.unpacked .planar .le16 .uFirst) (.packed .uFirst)) ∧
    (∀ b, ({ unpackC6 with port := [(b, .silent)] } : State).CodecChecks
        (.packed .uFirst) (.unpacked .semiPlanar .be16 .vFirst)) ∧
    (∀ b ∈ [0x1203, 0x2104], ∃ a ∈ frameAddrs packP2.src (.unpacked .planar .le16 .uFirst) 4 2 ++
      frameAddrs packP2.dst (.packed .uFirst) 4 2, portAnswer [(b, .silent)] a = .silent) ∧
    ∀ b ∈ [0x2104, 0x3107], ∃ a ∈ frameAddrs unpackC6.src (.packed .uFirst) 4 2 ++
      frameAddrs unpackC6.dst (.unpacked .semiPlanar .be16 .vFirst) 4 2, portAnswer [(b, .silent)] a = .silent :=
  ⟨silent_port_no_error, fun _ => packP2_checks, fun _ => unpackC6_checks, by decide +kernel, by decide +kernel⟩

/-- A state with one device region of one address. -/
def deviceAt (s : State) (x : Nat) : State :=
  { s with params := { s.params with devices := [{ start := x, len := 1 }] } }

/-- DeviceWindowFaults: a device at the last byte of a window: P3's source, P2's source and destination, C6's source and
destination. -/
theorem witness_DeviceWindowFaults :
    (∀ x, (deviceAt frameP3 x).FrameChecks (.unpacked .planar .k8 .uFirst) ∧
      (deviceAt packP2 x).CodecChecks (.unpacked .planar .le16 .uFirst) (.packed .uFirst) ∧
      (deviceAt unpackC6 x).CodecChecks (.packed .uFirst) (.unpacked .semiPlanar .be16 .vFirst)) ∧
    (frameP3.src.p0.addr.toNat ≤ 0x400B ∧ 0x400B < frameP3.src.p0.addr.toNat + frameP3.src.p0.len.toNat) ∧
    (packP2.src.p2.addr.toNat ≤ 0x1203 ∧ 0x1203 < packP2.src.p2.addr.toNat + packP2.src.p2.len.toNat) ∧
    (packP2.dst.p1.addr.toNat ≤ 0x2104 ∧ 0x2104 < packP2.dst.p1.addr.toNat + packP2.dst.p1.len.toNat) ∧
    (unpackC6.src.p1.addr.toNat ≤ 0x2104 ∧ 0x2104 < unpackC6.src.p1.addr.toNat + unpackC6.src.p1.len.toNat) ∧
    (unpackC6.dst.p1.addr.toNat ≤ 0x3107 ∧ 0x3107 < unpackC6.dst.p1.addr.toNat + unpackC6.dst.p1.len.toNat) :=
  ⟨fun _ => ⟨frameP3_checks, packP2_checks, unpackC6_checks⟩, by decide +kernel, by decide +kernel, by decide +kernel,
    by decide +kernel, by decide +kernel⟩

/-! ### Steps and completions -/

/-- ResetRestoresRegisters and ResetAbandonsTheCommand: a reset of an idle block gives a next state, and so does one
during P2's PACK or P3's WRFRAME, also with a sink that now refuses. -/
theorem witness_ResetAbandonsTheCommand :
    frameP3.inFlight = none ∧ (∃ t, step { frameP3 with events := [.reset] } = .next t) ∧
      (∃ t, step { packP2.issue (encode .pack) with events := [.reset] } = .next t) ∧
      (∃ t, step { busyFrame with events := [.reset] } = .next t) ∧
      ∃ t, step { busyFrame with sink := [.refuse], events := [.reset] } = .next t :=
  ⟨rfl, ⟨_, rfl⟩, ⟨_, rfl⟩, ⟨_, rfl⟩, ⟨_, rfl⟩⟩

/-- CommandCompletesOrWaits, CommandsWriteOnlyTheirRegisters and StreamPosCountsAcceptedBytes: a command that gives a
next state, appending 18 bytes. -/
theorem witness_CommandCompletesOrWaits :
    ∃ t, exec .wrframe frameP3 = .next t ∧ t.stream.length = 18 ∧ Instr.wrframe ≠ .strclr ∧
      frameP3.streamPos.toNat + (t.stream.length - frameP3.stream.length) < 2 ^ 64 :=
  ⟨_, rfl, by decide +kernel, by decide, by decide +kernel⟩

/-- ValidationErrorsChangeOnlyStatus: one command for each of the three codes, in flight. -/
theorem witness_ValidationErrorsChangeOnlyStatus :
    (inFlightOf 0x30#64).inFlight ≠ none ∧
      (∃ t, exec .pack (inFlightOf 0x30#64) = .next t ∧ t.inFlight = none ∧ t.status.err = .invalidArgument) ∧
      (∃ t, exec .pack ((codes 12 12).issue 0x30#64) = .next t ∧ t.inFlight = none ∧ t.status.err = .unsupported) ∧
      ∃ t, exec .fcount { (configured 1 4 2).issue 0x3#64 with fc := { base.fc with len := 13#64 } } = .next t ∧
        t.inFlight = none ∧ t.status.err = .protocol :=
  ⟨by decide, ⟨_, rfl, rfl, rfl⟩, ⟨_, rfl, rfl, rfl⟩, ⟨_, rfl, rfl, rfl⟩⟩

/-- CommandsCompleteWhenAnswered, and KeptDutiesNeverStop for the engine's turn. -/
theorem witness_CommandsCompleteWhenAnswered : packP2.Answered ∧ packP2.WindowsInMemory ∧
    (packP2.issue 0x30#64).events = [] ∧ keepsDuties .engine (packP2.issue 0x30#64) := by
  refine ⟨⟨fun a => by show PortAnswer.data ≠ .silent; decide, by decide +kernel⟩, ?_, rfl, ?_⟩
  · unfold State.WindowsInMemory
    decide +kernel
  · show State.RunningWindowsInMemory _
    unfold State.RunningWindowsInMemory
    decide +kernel

/-- KeptDutiesNeverStop: an engine's turn with NOP in flight and a device under a window; a bus write to an idle block's
last register, one that ends just below the window, and a memory write at the last address. -/
theorem witness_KeptDutiesNeverStop :
    keepsDuties .engine ((deviceAt packP2 0x1000).issue 0#64) ∧ keepsDuties (.regWrite 0x10440 8 1#64) base ∧
      keepsDuties (.regWrite 0xFFF8 8 1#64) base ∧ keepsDuties (.memWrite (2 ^ 64 - 1) 1#8) base := by
  refine ⟨?_, ⟨?_, ?_⟩, ⟨?_, ?_⟩, ?_, ?_⟩
  · show State.RunningWindowsInMemory _
    unfold State.RunningWindowsInMemory
    decide +kernel
  · decide +kernel
  · intro off h
    have h' : windowOffset base 0x10440 = some 0x440 := by decide +kernel
    obtain rfl : 0x440 = off := by simpa [h'] using h
    exact ⟨by decide, fun hb => absurd hb (by decide +kernel)⟩
  · decide +kernel
  · intro off h
    exact absurd h (by simp [show windowOffset base 0xFFF8 = none by decide +kernel])
  · decide +kernel
  · decide +kernel

/-- NopOnlyCompletes: a word with opcode 0 and one reserved bit, at both ends. -/
theorem witness_NopOnlyCompletes :
    (0x100#64).toNat % 256 = 0 ∧ 0x100#64 ≠ 0#64 ∧ (0x8000000000000000#64).toNat % 256 = 0 ∧
      0x8000000000000000#64 ≠ 0#64 := by decide

/-- RegisteredFormatsHaveTheirGeometry: the first and the last registered code, and the codes next to them. -/
theorem witness_RegisteredFormatsHaveTheirGeometry :
    registry (BitVec.ofNat 64 1) = some (.unpacked .planar .k8 .uFirst) ∧
      registry (BitVec.ofNat 64 14) = some (.packed .vFirst) ∧ registry 0#64 = none ∧ registry 15#64 = none :=
  ⟨rfl, rfl, rfl, rfl⟩

/-- RoundupIsLeastMultiple at its smallest alignment, and a multiple to compare with. -/
theorem witness_RoundupIsLeastMultiple : 1 ≤ 1 ∧ 5 ∣ 15 ∧ 12 ≤ 15 := by decide

/-- A shape holds at the largest width and height. -/
theorem shape_max : ShapeHolds (.unpacked .planar .le16 .uFirst) 5#64 65535#64 65535#64 :=
  ⟨rfl, by decide, by decide, fun o h => by cases h⟩

/-- GeomFileWritesFileGeometry: the largest frame; the smallest packed width, and the width below it. -/
theorem witness_GeomFileWritesFileGeometry :
    ShapeHolds (.unpacked .planar .le16 .uFirst) (configured 5 65535 65535).cfg.fmt (configured 5 65535 65535).cfg.w
        (configured 5 65535 65535).cfg.h ∧
      ShapeHolds (.packed .uFirst) (configured 13 4 1).cfg.fmt (configured 13 4 1).cfg.w (configured 13 4 1).cfg.h ∧
      ∀ f, ¬ShapeHolds f (configured 13 3 1).cfg.fmt (configured 13 3 1).cfg.w (configured 13 3 1).cfg.h := by
  refine ⟨shape_max, ⟨rfl, by decide, by decide, fun o _ => by decide⟩, ?_⟩
  rintro f ⟨hf, -, -, h4⟩
  cases hf
  exact absurd (h4 .uFirst rfl) (by decide)

/-- GeomMemWritesMemoryGeometry and GeometryResultsAreBounded: alignments at MAX_ALIGN for the largest frame, and one
above it. -/
theorem witness_GeomMemWritesMemoryGeometry :
    (∀ p ∈ (Format.unpacked .planar .le16 .uFirst).planes,
      ((alignAll 65535 65535 65535).plane p).stride.toNat ≤ 65535 ∧
      ((alignAll 65535 65535 65535).plane p).lines.toNat ≤ 65535 ∧
      ((alignAll 65535 65535 65535).plane p).size.toNat ≤ 65535) ∧
    ShapeHolds (.unpacked .planar .le16 .uFirst) 5#64 65535#64 65535#64 ∧
    ¬(∀ p ∈ (Format.unpacked .planar .le16 .uFirst).planes,
      ((alignAll 0 0 65536).plane p).stride.toNat ≤ 65535 ∧ ((alignAll 0 0 65536).plane p).lines.toNat ≤ 65535 ∧
      ((alignAll 0 0 65536).plane p).size.toNat ≤ 65535) ∧
    Plane.p2 ∈ (Format.unpacked .planar .le16 .uFirst).planes :=
  ⟨by decide, shape_max, by decide, by decide⟩

/-- GeomMemZeroAlignmentsAreFileGeometry: all registers 0; and a format without plane 2, where GEOM_MEM gives a next
state. -/
theorem witness_GeomMemZeroAlignmentsAreFileGeometry :
    (∀ p : Plane, (configured 7 6 4).align.plane p = { stride := 0, lines := 0, size := 0 }) ∧
      registry (configured 7 6 4).cfg.fmt = some (.unpacked .semiPlanar .le16 .uFirst) ∧
      Plane.p2 ∉ (Format.unpacked .semiPlanar .le16 .uFirst).planes ∧ ∃ t, exec .geomMem (configured 7 6 4) = .next t :=
  ⟨fun p => by cases p <;> rfl, rfl, by decide, ⟨_, rfl⟩⟩

/-- A configuration to count frames in. -/
def counting (fmt ctrl hdr len : Nat) : State :=
  { configured fmt 4 2 with
    ctrl := BitVec.ofNat 64 ctrl
    fc := { base.fc with hdr := BitVec.ofNat 64 hdr, len := BitVec.ofNat 64 len } }

/-- FcountCountsWholeExtents: its clauses at their ends: a marker with code 3; a length one below the header, equal to
it, one byte more than it, and one extent more. -/
theorem witness_FcountCountsWholeExtents :
    (ShapeHolds (.unpacked .semiPlanar .k8 .uFirst) 3#64 4#64 2#64 ∧ (counting 3 1 0 0).ctrl.getLsbD 0 = true ∧
      (counting 3 1 0 0).cfg.fmt ≠ 1 ∧ (counting 3 1 0 0).cfg.fmt ≠ 5) ∧
    ShapeHolds (.unpacked .planar .k8 .uFirst) 1#64 4#64 2#64 ∧
    (counting 1 1 20 20).extentOf (.unpacked .planar .k8 .uFirst) = 18 ∧
    ((counting 1 1 20 19).fc.len.toNat < (counting 1 1 20 19).fc.hdr.toNat) ∧ 18 ∣ 20 - 20 ∧ ¬18 ∣ 21 - 20 ∧
    18 ∣ 38 - 20 :=
  ⟨⟨⟨rfl, by decide, by decide, fun o h => by cases h⟩, by decide, by decide, by decide⟩,
    ⟨rfl, by decide, by decide, fun o h => by cases h⟩, by decide +kernel, by decide +kernel, by decide, by decide,
    by decide⟩

/-- A run of one WRFRAME of P3. -/
def runP3 (n : Nat) : State :=
  match n with
  | 0 => frameP3
  | n + 1 => ((nextState (exec .wrframe ((runP3 n).issue (encode .wrframe))))).getD frameP3

/-- SuccessfulFramesMatchFrameCount: a run of one frame and a header of 20 bytes. -/
theorem witness_SuccessfulFramesMatchFrameCount :
    registry (runP3 0).cfg.fmt = some (.unpacked .planar .k8 .uFirst) ∧
      (∀ n, n < 1 → exec .wrframe ((runP3 n).issue (encode .wrframe)) = .next (runP3 (n + 1)) ∧
        (runP3 (n + 1)).inFlight = none ∧ (runP3 (n + 1)).status.err = .ok) ∧
      20 + 1 * (runP3 0).extentOf (.unpacked .planar .k8 .uFirst) < 2 ^ 64 := by
  refine ⟨rfl, ?_, by decide +kernel⟩
  intro n hn
  obtain rfl : n = 0 := by omega
  exact ⟨rfl, rfl, rfl⟩

/-- StreamErrorIsSticky, StreamIsAppendOnly and the invariants that a step keeps: a step from a state with STREAM_ERR
set and the oldest move not a truncation. -/
theorem witness_StreamErrorIsSticky :
    ∃ t, step { base with status := { done := true, err := .io, streamErr := true }, events := [.streamAppend [1#8]] }
        = .next t ∧ (Event.streamAppend [1#8]) ≠ .streamTruncate 0 := ⟨_, rfl, by decide⟩

/-- WrframeIgnoresDestination: a WRFRAME that gives a next state. -/
theorem witness_WrframeIgnoresDestination : ∃ t, exec .wrframe frameP3 = .next t := ⟨_, rfl⟩

/-- BlockFunctionLaws and SampleConversions: the ends of the rounding's ranges. -/
theorem witness_SampleConversions :
    (1021#10).toNat ≤ 1021 ∧ (1021#10).toNat % 4 ≠ 0 ∧ ((1021#10).toNat + 2) / 4 ≤ 255 ∧
      255 < ((1022#10).toNat + 2) / 4 := by decide

/-! ### The round trip -/

/-- P2's PACK, issued. -/
def tripPack : State := packP2.issue (encode .pack)

/-- The state after it. -/
def tripPacked : State := (nextState (exec .pack tripPack)).getD base

/-- The UNPACK of its packed frame into a frame of P2's format at other addresses. -/
def tripUnpack : State :=
  { tripPacked with
    inFlight := some (encode .unpack)
    src := tripPacked.dst
    dst := frameRegs 5 4 2 (planeRegs 0x3000 8 16) (planeRegs 0x3100 4 4) (planeRegs 0x3200 4 4) }

/-- The state after it. -/
def tripUnpacked : State := (nextState (exec .unpack tripUnpack)).getD base

/-- Every 16-bit value of P2's source frame is at most 1023. -/
theorem tripPack_values :
    ∀ e : ElementAt, e.inFrame 4 2 →
      elementValue .le16 (tripPack.mem.read (e.addr tripPack.src .planar .le16 .uFirst))
        (tripPack.mem.read (e.addr tripPack.src .planar .le16 .uFirst + 1)) ≤ 1023 := by
  have luma : ∀ r, r < 2 → ∀ x, x < 4 →
      elementValue .le16 (tripPack.mem.read ((ElementAt.luma r x).addr tripPack.src .planar .le16 .uFirst))
        (tripPack.mem.read ((ElementAt.luma r x).addr tripPack.src .planar .le16 .uFirst + 1)) ≤ 1023 := by
    decide +kernel
  have chroma : ∀ c ∈ [Comp.u, .v], ∀ x, x < 2 →
      elementValue .le16 (tripPack.mem.read ((ElementAt.chroma 0 x c).addr tripPack.src .planar .le16 .uFirst))
        (tripPack.mem.read ((ElementAt.chroma 0 x c).addr tripPack.src .planar .le16 .uFirst + 1)) ≤ 1023 := by
    decide +kernel
  intro e h
  cases e with
  | luma r x => exact luma r h.1 x h.2
  | chroma r x c =>
    obtain ⟨h1, h2⟩ := h
    obtain rfl : r = 0 := by omega
    exact chroma c (by cases c <;> decide) x (by omega)

/-- PackThenUnpackRestoresTheFrame: P2's frame, packed and unpacked to other addresses. -/
theorem witness_PackThenUnpackRestoresTheFrame :
    (registry tripPack.src.fmt = some (.unpacked .planar .le16 .uFirst) ∧
      registry tripPack.dst.fmt = some (.packed .uFirst) ∧ tripPack.mem.wf = true) ∧
    RowsApart tripPack.dst (.packed .uFirst) tripPack.src.w.toNat ∧
    (tripPack.inFlight ≠ none ∧ exec .pack tripPack = .next tripPacked ∧ tripPacked.inFlight = none ∧
      tripPacked.status.err = .ok) ∧
    (tripUnpack.mem = tripPacked.mem ∧ tripUnpack.src = tripPacked.dst ∧ tripUnpack.dst.fmt = tripPack.src.fmt) ∧
    RowsApart tripUnpack.dst (.unpacked .planar .le16 .uFirst) tripPack.src.w.toNat ∧
    (tripUnpack.inFlight ≠ none ∧ exec .unpack tripUnpack = .next tripUnpacked ∧ tripUnpacked.inFlight = none ∧
      tripUnpacked.status.err = .ok) := by
  refine ⟨⟨rfl, rfl, by decide +kernel⟩, packP2_rows, ⟨by decide, rfl, rfl, rfl⟩, ⟨rfl, rfl, rfl⟩, ?_, ?_⟩
  · unfold RowsApart
    decide +kernel
  · exact ⟨by decide, rfl, rfl, rfl⟩

/-! ### Invariants -/

/-- The invariants hold of a state that is not the reset state: P2's frame, before a step. -/
theorem witness_StepKeepsInvariants :
    packP2.StatusLegal ∧ packP2.ReservedBitsZero ∧ packP2.MemoryLegal ∧ packP2.GeometryLegal ∧ packP2.FrameCountLegal ∧
      ∃ t, step (packP2.issue 0x30#64) = .next t := by
  refine ⟨?_, ?_, ?_, ?_, ?_, ⟨_, rfl⟩⟩
  · unfold State.StatusLegal
    decide +kernel
  · unfold State.ReservedBitsZero
    decide +kernel
  · unfold State.MemoryLegal
    decide +kernel
  · unfold State.GeometryLegal PlaneGeom.Legal
    decide +kernel
  · unfold State.FrameCountLegal
    decide +kernel

end Sys2Proof.Tests
end

section
/-! The rounding of 00_scope.md R7: `roundup` as the lower adjoint of the inclusion of the multiples of `a`. -/

namespace Sys2Proof.Proofs

open Sys2Proof.Machine

/-- Any alignment will do, 0 included. -/
theorem dvd_roundup (x a : Nat) : a ∣ roundup x a :=
  Nat.dvd_mul_left a ((x + a - 1) / a)

/-- Against a multiple of the alignment, `roundup x a` compares as `x` does: what makes it the least one. -/
theorem roundup_le_iff_of_dvd {x a m : Nat} (ha : 1 ≤ a) (hm : a ∣ m) : roundup x a ≤ m ↔ x ≤ m := by
  obtain ⟨c, rfl⟩ := hm
  calc roundup x a ≤ a * c
    _ ↔ (x + a - 1) / a ≤ c := by rw [roundup, Nat.mul_comm, Nat.mul_le_mul_left_iff ha]
    _ ↔ x + a - 1 ≤ a * c + (a - 1) := Nat.div_le_iff_le_mul_add_pred ha
    _ ↔ x ≤ a * c := by omega

theorem le_roundup {x a : Nat} (ha : 1 ≤ a) : x ≤ roundup x a :=
  (roundup_le_iff_of_dvd ha (dvd_roundup x a)).mp (Nat.le_refl _)

/-- Settles O23: leastness is the comparison with the multiples of the alignment. -/
theorem roundupIsLeastMultiple : Obligations.RoundupIsLeastMultiple := by
  intro x a ha
  exact ⟨dvd_roundup x a, le_roundup ha, fun _ hm hx => (roundup_le_iff_of_dvd ha hm).mpr hx⟩

end Sys2Proof.Proofs
end

section
/-! What a step can do, said once: the effect of a command, of an agent's move and of a step, each with the cases in
which it gives a next state. Every invariant of the machine is a case analysis of these. -/

namespace Sys2Proof.Proofs

open Sys2Proof.Machine

/-! ### The addresses of a frame's bytes -/

theorem lt_of_mem_frameAddrs {addrW : Nat} {fr : FrameRegs} {f : Format} {w h a : Nat}
    (hw : windowOK addrW fr f w h = true) (ha : a ∈ frameAddrs fr f w h) : a < 2 ^ addrW := by
  obtain ⟨p, hp, r, hr, c, hc, rfl⟩ := mem_frameAddrs.mp ha
  exact (row_byte_in_window (windowOK_iff.mp hw p hp) hr hc).2.2

theorem element_lt_row {x n es i : Nat} (hx : x < n) (hi : i < es) : x * es + i < n * es :=
  calc x * es + i < (x + 1) * es := by rw [Nat.succ_mul]; omega
    _ ≤ n * es := Nat.mul_le_mul_right es hx

theorem blockAddr_mem_frameAddrs {fr : FrameRegs} {o : Order} {p : Plane} {w h r b i : Nat}
    (hp : p ∈ (Format.packed o).planes) (hr : r < planeLines h p) (hb : b < w / 4) (hi : i < 5) :
    blockAddr (fr.plane p) r b + i ∈ frameAddrs fr (.packed o) w h := by
  have hc : 5 * b + i < rowBytes (.packed o) w p := by rw [rowBytes]; omega
  exact mem_frameAddrs.mpr ⟨p, hp, r, hr, _, hc, by rw [blockAddr, rowAddr]; omega⟩

theorem lumaAddr_mem_frameAddrs {fr : FrameRegs} {l : Layout} {k : Kind} {o : Order} {w h r x i : Nat}
    (hr : r < h) (hx : x < w) (hi : i < k.size) :
    elemAddr fr.p0 r x k.size + i ∈ frameAddrs fr (.unpacked l k o) w h := by
  have hp : Plane.p0 ∈ (Format.unpacked l k o).planes := by cases l <;> simp [Format.planes]
  have hc : x * k.size + i < rowBytes (.unpacked l k o) w .p0 := by cases l <;> exact element_lt_row hx hi
  exact mem_frameAddrs.mpr ⟨.p0, hp, r, hr, _, hc, by rw [elemAddr, rowAddr, FrameRegs.plane]; omega⟩

theorem chromaAddr_mem_frameAddrs {fr : FrameRegs} {l : Layout} {k : Kind} {o : Order} {w h r x i : Nat} {c : Comp}
    (hr : r < h / 2) (hx : x < w / 2) (hi : i < k.size) :
    chromaAddr fr l k o r x c + i ∈ frameAddrs fr (.unpacked l k o) w h := by
  rw [mem_frameAddrs]
  cases l with
  | planar =>
    have hc : x * k.size + i < w / 2 * k.size := element_lt_row hx hi
    by_cases hfirst : c = o.first
    · exact ⟨.p1, by simp [Format.planes], r, hr, _, hc, by
        simp only [chromaAddr, hfirst, if_true, elemAddr, rowAddr, FrameRegs.plane]; omega⟩
    · exact ⟨.p2, by simp [Format.planes], r, hr, _, hc, by
        simp only [chromaAddr, hfirst, if_false, elemAddr, rowAddr, FrameRegs.plane]; omega⟩
  | semiPlanar =>
    have hplace : (if c = o.first then 0 else 1) < 2 := by split <;> omega
    have hc : (2 * x + if c = o.first then 0 else 1) * k.size + i < w * k.size := element_lt_row (by omega) hi
    exact ⟨.p1, by simp [Format.planes], r, hr, _, hc, by
      simp only [chromaAddr, elemAddr, rowAddr, FrameRegs.plane]; omega⟩

/-! ### The bytes that PACK and UNPACK write -/

@[simp] theorem elementBytes_length (k : Kind) (u8 : Config.RoundOverflow) (c : Sample) :
    (elementBytes k u8 c).length = k.size := by
  cases k <;> rfl

theorem addr_of_mem_cellsAt {a : Nat} {bs : List Byte} {c : Host.Cell} (h : c ∈ cellsAt a bs) :
    ∃ i, i < bs.length ∧ c.1 = a + i := by
  obtain ⟨i, hi, hc⟩ := mem_cellsAt.mp h
  exact ⟨i, (List.getElem?_eq_some_iff.mp hi).1, hc⟩

theorem mem_overBlocks {ln nb : Nat} {g : Nat → Nat → List Host.Cell} {c : Host.Cell} :
    c ∈ overBlocks ln nb g ↔ ∃ r, r < ln ∧ ∃ b, b < nb ∧ c ∈ g r b := by
  simp [overBlocks]

theorem packCells_addr {m : Memory} {src dst : FrameRegs} {l : Layout} {k : Kind} {o od : Order} {w h : Nat}
    {c : Host.Cell} (hc : c ∈ packCells m src dst l k o od w h) : c.1 ∈ frameAddrs dst (.packed od) w h := by
  rcases List.mem_append.mp hc with hc | hc
  all_goals
    obtain ⟨r, hr, b, hb, hc⟩ := mem_overBlocks.mp hc
    obtain ⟨i, hi, ha⟩ := addr_of_mem_cellsAt hc
    rw [ha]
  · exact blockAddr_mem_frameAddrs (p := .p0) (by simp [Format.planes]) hr hb hi
  · exact blockAddr_mem_frameAddrs (p := .p1) (by simp [Format.planes]) hr hb hi

theorem lumaOut_addr {dst : FrameRegs} {l : Layout} {k : Kind} {o : Order} {u8 : Config.RoundOverflow} {q : Quad}
    {w h r b : Nat} {c : Host.Cell} (hr : r < h) (hb : b < w / 4) (hc : c ∈ lumaOut dst k u8 q r b) :
    c.1 ∈ frameAddrs dst (.unpacked l k o) w h := by
  simp only [lumaOut, List.mem_append, or_assoc] at hc
  rcases hc with hc | hc | hc | hc
  all_goals
    obtain ⟨i, hi, ha⟩ := addr_of_mem_cellsAt hc
    rw [ha]
    exact lumaAddr_mem_frameAddrs hr (by omega) (by simpa using hi)

theorem chromaOut_addr {dst : FrameRegs} {l : Layout} {k : Kind} {o os : Order} {u8 : Config.RoundOverflow} {q : Quad}
    {w h r b : Nat} {c : Host.Cell} (hr : r < h / 2) (hb : b < w / 4) (hc : c ∈ chromaOut dst l k o os u8 q r b) :
    c.1 ∈ frameAddrs dst (.unpacked l k o) w h := by
  simp only [chromaOut, List.mem_append, or_assoc] at hc
  rcases hc with hc | hc | hc | hc
  all_goals
    obtain ⟨i, hi, ha⟩ := addr_of_mem_cellsAt hc
    rw [ha]
    exact chromaAddr_mem_frameAddrs hr (by omega) (by simpa using hi)

theorem unpackCells_addr {m : Memory} {src dst : FrameRegs} {l : Layout} {k : Kind} {o os : Order}
    {u8 : Config.RoundOverflow} {w h : Nat} {c : Host.Cell} (hc : c ∈ unpackCells m src dst l k o os u8 w h) :
    c.1 ∈ frameAddrs dst (.unpacked l k o) w h := by
  rcases List.mem_append.mp hc with hc | hc
  all_goals obtain ⟨r, hr, b, hb, hc⟩ := mem_overBlocks.mp hc
  · exact lumaOut_addr hr hb hc
  · exact chromaOut_addr hr hb hc

theorem windowOK_of_codecFramesOK {s : State} {fs fd : Format} (h : codecFramesOK s fs fd = true) :
    windowOK s.params.addrW s.src fs s.src.w.toNat s.src.h.toNat = true ∧
      windowOK s.params.addrW s.dst fd s.src.w.toNat s.src.h.toNat = true := by
  simp only [codecFramesOK, Bool.and_eq_true] at h
  obtain ⟨⟨⟨_, hsrc⟩, hdst⟩, _⟩ := h
  exact ⟨hsrc, hdst⟩

/-- The plan is the one that PACK or UNPACK makes in this state. -/
def IsCodecPlan (s : State) (p : CodecPlan) : Prop := packPlan s = .ok p ∨ unpackPlan s = .ok p

/-- A PACK that passes its checks is between two registered formats of a codec pair (42_codec.md R170). -/
theorem packPlan_eq_ok {s : State} {p : CodecPlan} (h : packPlan s = .ok p) :
    ∃ l k o od, codecFramesOK s (.unpacked l k o) (.packed od) = true ∧
      p.cells = packCells s.mem s.src s.dst l k o od s.src.w.toNat s.src.h.toNat := by
  unfold packPlan at h
  split at h
  · split at h
    · next hok => cases h; exact ⟨_, _, _, _, hok, rfl⟩
    · cases h
  all_goals cases h

/-- An UNPACK that passes its checks is between two registered formats of a codec pair (42_codec.md R171). -/
theorem unpackPlan_eq_ok {s : State} {p : CodecPlan} (h : unpackPlan s = .ok p) :
    ∃ l k o os, codecFramesOK s (.packed os) (.unpacked l k o) = true ∧
      p.cells = unpackCells s.mem s.src s.dst l k o os s.params.u8RoundOverflow s.src.w.toNat s.src.h.toNat := by
  unfold unpackPlan at h
  split at h
  · split at h
    · next hok => cases h; exact ⟨_, _, _, _, hok, rfl⟩
    · cases h
  all_goals cases h

/-- WindowOK of the destination frame holds every byte that PACK or UNPACK writes (40_geometry.md R104). -/
theorem IsCodecPlan.cell_lt {s : State} {p : CodecPlan} (h : IsCodecPlan s p) {c : Host.Cell} (hc : c ∈ p.cells) :
    c.1 < 2 ^ s.params.addrW := by
  rcases h with h | h
  · obtain ⟨l, k, o, od, hok, hcells⟩ := packPlan_eq_ok h
    exact lt_of_mem_frameAddrs (windowOK_of_codecFramesOK hok).2 (packCells_addr (hcells ▸ hc))
  · obtain ⟨l, k, o, os, hok, hcells⟩ := unpackPlan_eq_ok h
    exact lt_of_mem_frameAddrs (windowOK_of_codecFramesOK hok).2 (unpackCells_addr (hcells ▸ hc))

/-! ### The errors of the plans -/

theorem wrframePlan_error {s : State} {e : ErrCode} (h : wrframePlan s = .error e) :
    e = .io ∧ s.status.streamErr = true ∨ e = .invalidArgument := by
  unfold wrframePlan at h
  split at h
  · next he => cases h; exact .inl ⟨rfl, he⟩
  · split at h
    · cases h; exact .inr rfl
    · iterate 4
        split at h
        · cases h; exact .inr rfl
      cases h

theorem packPlan_error {s : State} {e : ErrCode} (h : packPlan s = .error e) :
    e = .invalidArgument ∨ e = .unsupported := by
  unfold packPlan at h
  split at h
  · split at h
    · cases h
    · cases h; exact .inl rfl
  all_goals cases h
  all_goals simp

theorem unpackPlan_error {s : State} {e : ErrCode} (h : unpackPlan s = .error e) :
    e = .invalidArgument ∨ e = .unsupported := by
  unfold unpackPlan at h
  split at h
  · split at h
    · cases h
    · cases h; exact .inl rfl
  all_goals cases h
  all_goals simp

/-! ### Commands -/

/-- What a command that gives a next state has done (60_exceptions.md R201). Each constructor gives the next state as a
chain of the model's updates; where a value is left open (the bytes of a frame, a packed block, the frame extent), no
invariant depends on it. -/
inductive CommandEffect (s : State) : Instr → State → Prop
  /-- Completion with nothing but STATUS changed: NOP, and every error of a command's checks. -/
  | finished {i : Instr} {e : ErrCode} (hi : i ≠ .strclr) (hcode : e.produced = true)
      (hio : e = .io → s.status.streamErr = true) : CommandEffect s i (s.finish e)
  /-- A missing answer: the command waits (70_reset_and_hazards.md R246). -/
  | waits {i : Instr} (hi : i ≠ .strclr) : CommandEffect s i s.drew
  | geomFile {f : Format} (hf : shapeFormat s.cfg.fmt s.cfg.w s.cfg.h = some f) :
      CommandEffect s .geomFile
        ((s.withGeom (geomRegs f (fileLayout f s.cfg.w.toNat s.cfg.h.toNat))).finish .ok)
  | geomMem {f : Format} (hf : shapeFormat s.cfg.fmt s.cfg.w s.cfg.h = some f) (hal : alignsOK s.align f = true) :
      CommandEffect s .geomMem
        ((s.withGeom (geomRegs f (memLayout s.align f s.cfg.w.toNat s.cfg.h.toNat))).finish .ok)
  | fcount {extent : Nat} :
      CommandEffect s .fcount
        ((s.withFrameCount (BitVec.ofNat 64 extent)
          (BitVec.ofNat 64 ((s.fc.len.toNat - s.fc.hdr.toNat) / extent))).finish .ok)
  | frameAppended {bs : List Byte} : CommandEffect s .wrframe ((s.emitted bs).finish .ok)
  | frameRefused {bs : List Byte} {sink : List SinkAnswer} :
      CommandEffect s .wrframe (((((s.emitted bs).withStreamErr true).withSink sink).drew).finish .io)
  | frameBusError {bs : List Byte} {b : Bool} :
      CommandEffect s .wrframe ((((s.emitted bs).withStreamErr (s.status.streamErr || b)).drew).finish .busError)
  | strclr : CommandEffect s .strclr (((s.withStreamErr false).withStreamPos 0).finish .ok)
  | blockPacked {i : Instr} {v : Word} (hi : i ≠ .strclr) : CommandEffect s i ((s.withBlkPk v).finish .ok)
  | blockUnpacked {i : Instr} {k : Kind} {u8 : Config.RoundOverflow} {q : Quad} (hi : i ≠ .strclr) :
      CommandEffect s i ((s.withBlkOut (blkElement k u8 q.c0) (blkElement k u8 q.c1) (blkElement k u8 q.c2)
        (blkElement k u8 q.c3)).finish .ok)
  | memoryWritten {i : Instr} {p : CodecPlan} {cells : List Host.Cell} {e : ErrCode} (hi : i ≠ .strclr)
      (hp : IsCodecPlan s p) (hcells : ∀ c ∈ cells, c ∈ p.cells) (he : e = .ok ∨ e = .busError) :
      CommandEffect s i (((s.withMem (s.mem.writeAll cells)).drew).finish e)

theorem raise_effect {i : Instr} {s t : State} {e : ErrCode} (hi : i ≠ .strclr) (hcode : e.produced = true)
    (hio : e = .io → s.status.streamErr = true) (h : raise e s = .next t) : CommandEffect s i t := by
  rw [raise_eq_next] at h
  exact h ▸ .finished hi hcode hio

theorem geomFile_effect {s t : State} (h : execGeomFile s = .next t) : CommandEffect s .geomFile t := by
  unfold execGeomFile at h
  split at h
  · exact raise_effect (by simp) rfl (by simp) h
  · next f hf =>
    rw [complete_eq_next] at h
    exact h ▸ .geomFile hf

theorem geomMem_effect {s t : State} (h : execGeomMem s = .next t) : CommandEffect s .geomMem t := by
  unfold execGeomMem at h
  split at h
  · exact raise_effect (by simp) rfl (by simp) h
  · next f hf =>
    split at h
    · next hal =>
      rw [complete_eq_next] at h
      exact h ▸ .geomMem hf hal
    · exact raise_effect (by simp) rfl (by simp) h

theorem fcount_effect {s t : State} (h : execFcount s = .next t) : CommandEffect s .fcount t := by
  unfold execFcount at h
  split at h
  · exact raise_effect (by simp) rfl (by simp) h
  · split at h
    · dsimp only at h
      split at h
      · exact raise_effect (by simp) rfl (by simp) h
      · split at h
        · exact raise_effect (by simp) rfl (by simp) h
        · rw [complete_eq_next] at h
          exact h ▸ .fcount
    · exact raise_effect (by simp) rfl (by simp) h

theorem wrframe_effect {s t : State} (h : execWrframe s = .next t) : CommandEffect s .wrframe t := by
  unfold execWrframe at h
  split at h
  · next e he =>
    rcases wrframePlan_error he with ⟨rfl, hset⟩ | rfl
    · exact raise_effect (by simp) rfl (fun _ => hset) h
    · exact raise_effect (by simp) rfl (by simp) h
  · rcases runFrame_cases h with ⟨_, rfl⟩ | ⟨_, rfl⟩ | ⟨_, _, _, rfl⟩ | ⟨_, rfl⟩
    · exact .frameAppended
    · exact .frameRefused
    · exact .frameBusError
    · exact .waits (by simp)

theorem runCodec_effect {i : Instr} {s t : State} {p : CodecPlan} (hi : i ≠ .strclr) (hp : IsCodecPlan s p)
    (h : runCodec p s = .next t) : CommandEffect s i t := by
  rcases runCodec_cases h with ⟨_, rfl⟩ | ⟨_, rfl⟩ | ⟨_, rfl⟩
  · exact .memoryWritten hi hp (fun _ => settledWrites_subset) (.inl rfl)
  · exact .memoryWritten hi hp (fun _ hc => (partialWrites_subset hc).1) (.inr rfl)
  · exact .waits hi

theorem pack_effect {s t : State} (h : execPack s = .next t) : CommandEffect s .pack t := by
  unfold execPack at h
  split at h
  · next e he =>
    rcases packPlan_error he with rfl | rfl
    all_goals exact raise_effect (by simp) rfl (by simp) h
  · next p hp => exact runCodec_effect (by simp) (.inl hp) h

theorem unpack_effect {s t : State} (h : execUnpack s = .next t) : CommandEffect s .unpack t := by
  unfold execUnpack at h
  split at h
  · next e he =>
    rcases unpackPlan_error he with rfl | rfl
    all_goals exact raise_effect (by simp) rfl (by simp) h
  · next p hp => exact runCodec_effect (by simp) (.inr hp) h

theorem blkPack_effect {i : Instr} {k : Kind} {s t : State} (hi : i ≠ .strclr) (h : blkPack k s = .next t) :
    CommandEffect s i t := by
  rw [blkPack, complete_eq_next] at h
  exact h ▸ .blockPacked hi

theorem blkUnpack_effect {i : Instr} {k : Kind} {s t : State} (hi : i ≠ .strclr) (h : blkUnpack k s = .next t) :
    CommandEffect s i t := by
  rw [blkUnpack, complete_eq_next] at h
  exact h ▸ .blockUnpacked hi

/-- Everything a command can do when it gives a next state. -/
theorem exec_effect {i : Instr} {s t : State} (h : exec i s = .next t) : CommandEffect s i t := by
  cases i with
  | nop =>
    obtain rfl := (complete_eq_next s t).mp h
    exact .finished (by simp) rfl (by simp)
  | geomFile => exact geomFile_effect h
  | geomMem => exact geomMem_effect h
  | fcount => exact fcount_effect h
  | wrframe => exact wrframe_effect h
  | strclr =>
    obtain rfl := (complete_eq_next _ t).mp h
    exact .strclr
  | blkpack16le => exact blkPack_effect (k := .le16) (by simp) h
  | blkpack16be => exact blkPack_effect (k := .be16) (by simp) h
  | blkpack8 => exact blkPack_effect (k := .k8) (by simp) h
  | blkunpack16le => exact blkUnpack_effect (k := .le16) (by simp) h
  | blkunpack16be => exact blkUnpack_effect (k := .be16) (by simp) h
  | blkunpack8 => exact blkUnpack_effect (k := .k8) (by simp) h
  | pack => exact pack_effect h
  | unpack => exact unpack_effect h

/-! ### Moves -/

/-- What a move that gives a next state has done: the engine's turn, a reset, or one access of the environment. -/
inductive MoveEffect (s : State) : Event → State → Prop
  /-- Nothing but the agents' side: a read, an access with no effect, new answers of the port or the sink, the turn of an
  idle engine. -/
  | aside {e : Event} (port : List (Nat × PortAnswer)) (sink : List SinkAnswer) (seen : Seen) (draws : Nat)
      (he : e ≠ .reset) : MoveEffect s e { s with port := port, sink := sink, seen := seen, draws := draws }
  | illegalWord : MoveEffect s .engine (s.finish .illegalCommand)
  | command {w : Word} {i : Instr} {t : State} (hw : s.inFlight = some w) (hi : decode w = .ok i)
      (ht : CommandEffect s i t) : MoveEffect s .engine t
  | reset : MoveEffect s .reset s.blockReset
  | resetFrame {bs : List Byte} {sink : List SinkAnswer} :
      MoveEffect s .reset (((s.emitted bs).withSink sink).drew).blockReset
  | resetCodec {p : CodecPlan} {cells : List Host.Cell} (hp : IsCodecPlan s p) (hcells : ∀ c ∈ cells, c ∈ p.cells) :
      MoveEffect s .reset ((s.withMem (s.mem.writeAll cells)).drew).blockReset
  | regWrite {addr bytes : Nat} {v : Word} (r : Reg) : MoveEffect s (.regWrite addr bytes v) (writeReg r v s)
  | memWrite {a : Nat} {b : Byte} (ha : a < 2 ^ s.params.addrW) :
      MoveEffect s (.memWrite a b) (s.withMem (s.mem.write a b))
  | streamAppend {bs : List Byte} : MoveEffect s (.streamAppend bs) (s.withStream (s.stream ++ bs))
  | streamTruncate {n : Nat} : MoveEffect s (.streamTruncate n) (s.withStream (s.stream.take n))

theorem MoveEffect.unchanged {s : State} {e : Event} (he : e ≠ .reset) : MoveEffect s e s :=
  .aside s.port s.sink s.seen s.draws he

theorem MoveEffect.saw {s : State} {e : Event} (x : Seen) (he : e ≠ .reset) : MoveEffect s e (s.withSeen x) :=
  .aside s.port s.sink x s.draws he

theorem MoveEffect.sawDraw {s : State} {e : Event} (x : Seen) (he : e ≠ .reset) :
    MoveEffect s e (s.withSeen x).drew :=
  .aside s.port s.sink x (s.draws + 1) he

theorem engineTurn_effect {s t : State} (h : engineTurn s = .next t) : MoveEffect s .engine t := by
  rcases engineTurn_cases s with ⟨_, he⟩ | ⟨w, r, _, _, he⟩ | ⟨w, i, hw, hi, he⟩
  · obtain rfl : s = t := by simpa [he] using h
    exact .unchanged (by simp)
  · obtain rfl := (raise_eq_next _ _ _).mp (he ▸ h)
    exact .illegalWord
  · exact .command hw hi (exec_effect (he ▸ h))

theorem resetMove_effect {s t : State} (h : resetMove s = .next t) : MoveEffect s .reset t := by
  rcases resetMove_cases h with rfl | ⟨p, k, _, _, rfl⟩ | ⟨p, hp, rfl⟩
  · exact .reset
  · exact .resetFrame
  · exact .resetCodec hp fun _ hc => (partialWrites_subset hc).1

theorem regWriteMove_effect {addr bytes : Nat} {v : Word} {s t : State} (h : regWriteMove addr bytes v s = .next t) :
    MoveEffect s (.regWrite addr bytes v) t := by
  unfold regWriteMove at h
  split at h
  · obtain ⟨_, rfl⟩ := outsideMove_cases h
    exact .unchanged (by simp)
  · split at h
    · cases h
    · split at h
      · cases h; exact .unchanged (by simp)
      · split at h
        · cases h
        · cases h; exact .regWrite _

theorem regReadMove_effect {addr bytes : Nat} {s t : State} (h : regReadMove addr bytes s = .next t) :
    MoveEffect s (.regRead addr bytes) t := by
  unfold regReadMove at h
  split at h
  · obtain ⟨_, rfl⟩ := outsideMove_cases h
    exact .unchanged (by simp)
  · split at h
    · cases h
    · split at h
      · cases h; exact .saw _ (by simp)
      · split at h
        · cases h; exact .sawDraw _ (by simp)
        · cases h; exact .saw _ (by simp)

theorem memWriteMove_effect {a : Nat} {b : Byte} {s t : State} (h : memWriteMove a b s = .next t) :
    MoveEffect s (.memWrite a b) t := by
  unfold memWriteMove at h
  split at h
  · cases h
  · next ha =>
    split at h
    · cases h
    · cases h; exact .memWrite (not_not.mp ha)

theorem memReadMove_effect {a : Nat} {s t : State} (h : memReadMove a s = .next t) : MoveEffect s (.memRead a) t := by
  unfold memReadMove at h
  split at h
  · cases h
  · split at h
    · cases h; exact .sawDraw _ (by simp)
    · cases h; exact .saw _ (by simp)

theorem streamReadMove_effect {n : Nat} {s t : State} (h : streamReadMove n s = .next t) :
    MoveEffect s (.streamRead n) t := by
  unfold streamReadMove at h
  split at h
  · cases h; exact .sawDraw _ (by simp)
  · split at h
    all_goals
      cases h
      exact .saw _ (by simp)

/-- Everything a move can do when it gives a next state. -/
theorem move_effect {e : Event} {s t : State} (h : move e s = .next t) : MoveEffect s e t := by
  cases e with
  | engine => exact engineTurn_effect h
  | reset => exact resetMove_effect h
  | regWrite addr bytes v => exact regWriteMove_effect h
  | regRead addr bytes => exact regReadMove_effect h
  | memWrite a b => exact memWriteMove_effect h
  | memRead a => exact memReadMove_effect h
  | streamAppend bs =>
    simp only [move, streamAppendMove] at h
    split at h
    · cases h
    · cases h; exact .streamAppend
  | streamTruncate n =>
    simp only [move, streamTruncateMove] at h
    split at h
    · cases h
    · cases h; exact .streamTruncate
  | streamRead n => exact streamReadMove_effect h
  | portAnswers port => cases h; exact .aside port s.sink s.seen s.draws (by simp)
  | sinkAnswers sink => cases h; exact .aside s.port sink s.seen s.draws (by simp)

/-! ### Steps -/

/-- A step is a move of the state with that move taken off: the oldest pending one, else the engine's. -/
theorem step_eq_move (s : State) : step s = move (s.events.headD .engine) (s.withEvents s.events.tail) := by
  unfold step nextMove
  cases h : s.events with
  | nil =>
    have hs : s.withEvents [] = s := by rw [← h]; rfl
    exact congrArg engineTurn hs.symm
  | cons e es => rfl

theorem step_effect {s t : State} (h : step s = .next t) :
    MoveEffect (s.withEvents s.events.tail) (s.events.headD .engine) t :=
  move_effect (step_eq_move s ▸ h)

/-- A property that no move breaks, and that does not look at the pending moves, no step breaks. -/
theorem step_preserves {P : State → Prop} (hevents : ∀ {s : State} (es : List Event), P s → P (s.withEvents es))
    (hmove : ∀ {s t : State} {e : Event}, MoveEffect s e t → P s → P t) {s t : State} (hs : P s)
    (h : step s = .next t) : P t :=
  hmove (step_effect h) (hevents _ hs)

end Sys2Proof.Proofs
end

section
/-! The invariants of Safety.lean, each kept by every step: a case analysis of what a command and a move can do. -/

namespace Sys2Proof.Proofs

open Sys2Proof.Machine

/-! ### STATUS (10_state.md R24) -/

theorem statusLegal_of_engine_eq {s t : State} (hs : s.StatusLegal) (hflight : t.inFlight = s.inFlight)
    (hstatus : t.status = s.status) : t.StatusLegal := by
  unfold State.StatusLegal State.busy at *
  rwa [hflight, hstatus]

theorem issue_statusLegal (w : Word) (s : State) : (s.issue w).StatusLegal := by
  simp [State.StatusLegal]

/-- A completion is legal with every code that is raised, and with IO where STREAM_ERR is set. -/
theorem finish_statusLegal {s : State} {e : ErrCode} (hcode : e.produced = true)
    (hio : e = .io → s.status.streamErr = true) : (s.finish e).StatusLegal := by
  simpa [State.StatusLegal] using ⟨hcode, hio⟩

theorem blockReset_statusLegal (s : State) : s.blockReset.StatusLegal := by
  simp [State.StatusLegal, State.reset]

theorem CommandEffect.statusLegal {s t : State} {i : Instr} (h : CommandEffect s i t) (hs : s.StatusLegal) :
    t.StatusLegal := by
  cases h with
  | finished _ hcode hio => exact finish_statusLegal hcode hio
  | waits => exact hs
  | frameRefused => exact finish_statusLegal rfl fun _ => rfl
  | memoryWritten _ _ _ he => rcases he with rfl | rfl <;> exact finish_statusLegal rfl (by simp)
  | geomFile | geomMem | fcount | frameAppended | frameBusError | strclr | blockPacked | blockUnpacked =>
    exact finish_statusLegal rfl (by simp)

theorem MoveEffect.statusLegal {s t : State} {e : Event} (h : MoveEffect s e t) (hs : s.StatusLegal) :
    t.StatusLegal := by
  cases h with
  | illegalWord => exact finish_statusLegal rfl (by simp)
  | command _ _ ht => exact ht.statusLegal hs
  | reset | resetFrame | resetCodec => exact blockReset_statusLegal _
  | @regWrite _ _ v r =>
    rcases writeReg_engine r v s with ⟨_, hissue⟩ | ⟨hflight, hstatus⟩
    · exact hissue ▸ issue_statusLegal v s
    · exact statusLegal_of_engine_eq hs hflight hstatus
  | aside | memWrite | streamAppend | streamTruncate => exact hs

/-- Settles O55: the engine writes STATUS only by a completion, the host only by an issue. -/
theorem stepKeepsStatusLegal : Obligations.StepKeepsStatusLegal :=
  fun _ _ hs h => step_preserves (P := State.StatusLegal) (fun _ => id) MoveEffect.statusLegal hs h

/-! ### Host memory (10_state.md R37) -/

theorem CommandEffect.params_eq {s t : State} {i : Instr} (h : CommandEffect s i t) : t.params = s.params := by
  cases h <;> rfl

theorem MoveEffect.params_eq {s t : State} {e : Event} (h : MoveEffect s e t) : t.params = s.params := by
  cases h with
  | command _ _ ht => exact ht.params_eq
  | regWrite r => exact writeReg_params r _ s
  | _ => rfl

theorem step_params {s t : State} (h : step s = .next t) : t.params = s.params :=
  (step_effect h).params_eq

/-- A command changes memory by writes inside the address space, if at all. -/
theorem CommandEffect.mem_eq_writeAll {s t : State} {i : Instr} (h : CommandEffect s i t) :
    ∃ cells : List Host.Cell, (∀ c ∈ cells, c.1 < 2 ^ s.params.addrW) ∧ t.mem = s.mem.writeAll cells := by
  cases h with
  | memoryWritten _ hp hcells _ => exact ⟨_, fun c hc => hp.cell_lt (hcells c hc), rfl⟩
  | _ => exact ⟨[], by simp, rfl⟩

/-- A move changes memory by writes inside the address space, if at all. -/
theorem MoveEffect.mem_eq_writeAll {s t : State} {e : Event} (h : MoveEffect s e t) :
    ∃ cells : List Host.Cell, (∀ c ∈ cells, c.1 < 2 ^ s.params.addrW) ∧ t.mem = s.mem.writeAll cells := by
  cases h with
  | command _ _ ht => exact ht.mem_eq_writeAll
  | resetCodec hp hcells => exact ⟨_, fun c hc => hp.cell_lt (hcells c hc), rfl⟩
  | @memWrite a b ha => exact ⟨[(a, b)], by simpa using ha, rfl⟩
  | regWrite r => exact ⟨[], by simp, writeReg_mem r _ s⟩
  | _ => exact ⟨[], by simp, rfl⟩

theorem MoveEffect.memoryLegal {s t : State} {e : Event} (h : MoveEffect s e t) (hs : s.MemoryLegal) :
    t.MemoryLegal := by
  obtain ⟨hwf, hlt⟩ := hs
  obtain ⟨cells, hcells, hmem⟩ := h.mem_eq_writeAll
  unfold State.MemoryLegal
  rw [hmem, h.params_eq]
  refine ⟨Memory.wf_writeAll cells hwf, fun c hc => ?_⟩
  rcases Memory.mem_writeAll hc with hc | hc
  · exact hcells c hc
  · exact hlt c hc

/-- Settles O57: every move changes memory by writes inside the address space. -/
theorem stepKeepsMemoryLegal : Obligations.StepKeepsMemoryLegal :=
  fun _ _ hs h => ⟨step_preserves (P := State.MemoryLegal) (fun _ => id) MoveEffect.memoryLegal hs h, step_params h⟩

/-! ### Reserved bits (10_state.md R26, R34) -/

theorem ctrlStored_le (v : Word) : (ctrlStored v).toNat ≤ 1 := by
  rw [ctrlStored, BitVec.toNat_and]
  exact Nat.and_le_right

/-- A BLK_OUT register holds an element of at most 2 bytes. -/
theorem blkElement_lt (k : Kind) (u8 : Config.RoundOverflow) (c : Sample) : (blkElement k u8 c).toNat < 2 ^ 16 := by
  have hle {n : Nat} (x : BitVec n) : (x.setWidth 64).toNat ≤ x.toNat := by
    rw [BitVec.toNat_setWidth]
    exact Nat.mod_le _ _
  cases k with
  | k8 => exact (hle _).trans_lt ((sampleOut8 u8 c).isLt.trans (by decide))
  | le16 => exact (hle _).trans_lt ((sampleOut16 c 0).2 ++ (sampleOut16 c 0).1).isLt
  | be16 => exact (hle _).trans_lt ((sampleOut16 c 1).2 ++ (sampleOut16 c 1).1).isLt

theorem CommandEffect.reservedBitsZero {s t : State} {i : Instr} (h : CommandEffect s i t)
    (hs : s.ReservedBitsZero) : t.ReservedBitsZero := by
  cases h with
  | blockUnpacked =>
    exact ⟨hs.1, blkElement_lt _ _ _, blkElement_lt _ _ _, blkElement_lt _ _ _, blkElement_lt _ _ _⟩
  | _ => exact hs

theorem writeReg_reservedBitsZero {s : State} (r : Reg) (v : Word) (hs : s.ReservedBitsZero) :
    (writeReg r v s).ReservedBitsZero := by
  cases r with
  | ctrl => exact ⟨ctrlStored_le v, hs.2⟩
  | _ => exact hs

theorem blockReset_reservedBitsZero (s : State) : s.blockReset.ReservedBitsZero := by
  simp [State.ReservedBitsZero, State.reset]

theorem MoveEffect.reservedBitsZero {s t : State} {e : Event} (h : MoveEffect s e t) (hs : s.ReservedBitsZero) :
    t.ReservedBitsZero := by
  cases h with
  | command _ _ ht => exact ht.reservedBitsZero hs
  | regWrite r => exact writeReg_reservedBitsZero r _ hs
  | reset | resetFrame | resetCodec => exact blockReset_reservedBitsZero _
  | aside | illegalWord | memWrite | streamAppend | streamTruncate => exact hs

/-- Settles O56: a host write masks CTRL, and an element has at most 2 bytes. -/
theorem stepKeepsReservedBitsZero : Obligations.StepKeepsReservedBitsZero :=
  fun _ _ hs h => step_preserves (P := State.ReservedBitsZero) (fun _ => id) MoveEffect.reservedBitsZero hs h

end Sys2Proof.Proofs
end

section
/-! The bounds of a geometry result (40_geometry.md R109, R110), and that GEOM_* and FC_* stay results. -/

namespace Sys2Proof.Proofs

open Sys2Proof.Machine

/-! ### One plane -/

theorem roundup_lt {x a : Nat} (ha : 1 ≤ a) : roundup x a < x + a :=
  calc roundup x a ≤ x + a - 1 := Nat.div_mul_le_self _ a
    _ < x + a := by omega

@[simp] theorem roundup_one (x : Nat) : roundup x 1 = x := by simp [roundup]

/-- A plane's geometry obeys 40_geometry.md R109 and the bounds of R110: `PlaneGeom.Legal`, on numbers. -/
def LayoutBounded (g : PlaneLayout) : Prop :=
  g.rowBytes ≤ g.stride ∧ g.stride * g.lines ≤ g.size ∧ g.rowBytes ≤ 131070 ∧ g.stride < 2 ^ 18 ∧ g.size < 2 ^ 36 ∧
    g.lines ≤ 65535

theorem alignedLayout_bounded {rb ln sa la za : Nat} (hrb : rb ≤ 131070) (hln : ln ≤ 65535)
    (hsa : 1 ≤ sa ∧ sa ≤ 65535) (hla : 1 ≤ la ∧ la ≤ 65535) (hza : 1 ≤ za ∧ za ≤ 65535) :
    LayoutBounded (alignedLayout rb ln sa la za) := by
  have hstride : roundup rb sa < rb + sa := roundup_lt hsa.1
  have hlines : roundup ln la < ln + la := roundup_lt hla.1
  have harea : roundup rb sa * roundup ln la ≤ 196604 * 131069 := Nat.mul_le_mul (by omega) (by omega)
  have hsize : roundup (roundup rb sa * roundup ln la) za < roundup rb sa * roundup ln la + za := roundup_lt hza.1
  refine ⟨le_roundup hsa.1, ?_, hrb, ?_, ?_, hln⟩
  · calc roundup rb sa * ln ≤ roundup rb sa * roundup ln la := Nat.mul_le_mul_left _ (le_roundup hla.1)
      _ ≤ roundup (roundup rb sa * roundup ln la) za := le_roundup hza.1
  · simp only [alignedLayout]; omega
  · simp only [alignedLayout]; omega

theorem kindSize_le (k : Kind) : k.size ≤ 2 := by cases k <;> decide

theorem rowBytes_le (f : Format) {w : Nat} (hw : w ≤ 65535) (p : Plane) : rowBytes f w p ≤ 131070 := by
  cases f with
  | unpacked l k o =>
    have hrow : w * k.size ≤ 65535 * 2 := Nat.mul_le_mul hw (kindSize_le k)
    have hhalf : w / 2 * k.size ≤ w * k.size := Nat.mul_le_mul_right _ (Nat.div_le_self w 2)
    cases l <;> cases p <;> simp only [rowBytes] <;> omega
  | packed o => simp only [rowBytes]; omega

theorem planeLines_le {h : Nat} (hh : h ≤ 65535) (p : Plane) : planeLines h p ≤ 65535 := by
  cases p <;> simp only [planeLines] <;> omega

theorem effectiveAlign_bounds {v : Word} (hv : v.toNat ≤ 65535) : 1 ≤ effectiveAlign v ∧ effectiveAlign v ≤ 65535 := by
  unfold effectiveAlign; omega

theorem memLayout_bounded {al : AlignRegs} {f : Format} {w h : Nat} {p : Plane} (hd : dimsOK f w h = true)
    (hal : planeAlignOK (al.plane p) = true) : LayoutBounded (memLayout al f w h p) := by
  obtain ⟨⟨_, hw, _, hh⟩, _⟩ := dimsOK_iff.mp hd
  simp only [planeAlignOK, Bool.and_eq_true, decide_eq_true_eq] at hal
  obtain ⟨⟨hstride, hlines⟩, hsize⟩ := hal
  exact alignedLayout_bounded (rowBytes_le f hw p) (planeLines_le hh p) (effectiveAlign_bounds hstride)
    (effectiveAlign_bounds hlines) (effectiveAlign_bounds hsize)

/-! ### The file geometry as a memory geometry -/

/-- The alignment registers at reset. -/
def zeroAlign : AlignRegs := { p0 := PlaneAlign.zero, p1 := PlaneAlign.zero, p2 := PlaneAlign.zero }

theorem zeroAlign_plane (p : Plane) : zeroAlign.plane p = PlaneAlign.zero := by cases p <;> rfl

theorem alignsOK_zeroAlign (f : Format) : alignsOK zeroAlign f = true := by
  simp [alignsOK, zeroAlign_plane, planeAlignOK, PlaneAlign.zero]

/-- With every alignment 0 the memory geometry is the file geometry (40_geometry.md R102). -/
theorem memLayout_zeroAlign (f : Format) (w h : Nat) : memLayout zeroAlign f w h = fileLayout f w h := by
  funext p
  simp [memLayout, fileLayout, alignedLayout, zeroAlign_plane, PlaneAlign.zero, effectiveAlign]

/-! ### The GEOM_* registers -/

theorem toNat_ofNat_of_lt {n : Nat} (h : n < 2 ^ 36) : (BitVec.ofNat 64 n).toNat = n := by
  rw [BitVec.toNat_ofNat, Nat.mod_eq_of_lt (by omega)]

/-- The registers of a plane that the format has hold its geometry. -/
theorem planeGeomRegs_of_mem {f : Format} {layout : Plane → PlaneLayout} {p : Plane} (hp : p ∈ f.planes) :
    planeGeomRegs f layout p =
      { rowBytes := BitVec.ofNat 64 (layout p).rowBytes, lines := BitVec.ofNat 64 (layout p).lines
        stride := BitVec.ofNat 64 (layout p).stride, size := BitVec.ofNat 64 (layout p).size } := by
  simp [planeGeomRegs, hp]

theorem planeGeomRegs_of_not_mem {f : Format} {layout : Plane → PlaneLayout} {p : Plane} (hp : p ∉ f.planes) :
    planeGeomRegs f layout p = PlaneGeom.zero := by
  simp [planeGeomRegs, hp]

theorem planeGeom_zero_legal : PlaneGeom.zero.Legal := by
  simp [PlaneGeom.Legal, PlaneGeom.zero]

theorem planeGeomRegs_legal {f : Format} {layout : Plane → PlaneLayout}
    (hb : ∀ p ∈ f.planes, LayoutBounded (layout p)) (p : Plane) : (planeGeomRegs f layout p).Legal := by
  by_cases hp : p ∈ f.planes
  · obtain ⟨hrow, harea, hrowMax, hstride, hsize, hlines⟩ := hb p hp
    rw [planeGeomRegs_of_mem hp]
    simp only [PlaneGeom.Legal]
    rw [toNat_ofNat_of_lt (n := (layout p).rowBytes) (by omega),
      toNat_ofNat_of_lt (n := (layout p).stride) (by omega),
      toNat_ofNat_of_lt (n := (layout p).lines) (by omega), toNat_ofNat_of_lt hsize]
    exact ⟨hrow, harea, hrowMax, hstride, hsize⟩
  · rw [planeGeomRegs_of_not_mem hp]
    exact planeGeom_zero_legal

theorem planeGeomRegs_size {f : Format} {layout : Plane → PlaneLayout} {p : Plane} (hp : p ∈ f.planes)
    (hb : LayoutBounded (layout p)) : (planeGeomRegs f layout p).size.toNat = (layout p).size := by
  obtain ⟨_, _, _, _, hsize, _⟩ := hb
  rw [planeGeomRegs_of_mem hp]
  exact toNat_ofNat_of_lt hsize

/-- Every format has planes 0 and 1, and a planar one plane 2 (40_geometry.md R100). -/
theorem planes_cases (f : Format) : f.planes = [.p0, .p1, .p2] ∨ f.planes = [.p0, .p1] := by
  cases f with
  | unpacked l k o => cases l <;> simp [Format.planes]
  | packed o => simp [Format.planes]

/-- GEOM_FRAME is the sum of the plane sizes (40_geometry.md R109). -/
theorem geomRegs_frame {f : Format} {layout : Plane → PlaneLayout}
    (hb : ∀ p ∈ f.planes, LayoutBounded (layout p)) :
    (geomRegs f layout).frame.toNat =
      (geomRegs f layout).p0.size.toNat + (geomRegs f layout).p1.size.toNat + (geomRegs f layout).p2.size.toNat := by
  have hsize : ∀ p ∈ f.planes, (planeGeomRegs f layout p).size.toNat = (layout p).size :=
    fun p hp => planeGeomRegs_size hp (hb p hp)
  have hlt : ∀ p ∈ f.planes, (layout p).size < 2 ^ 36 := fun p hp => (hb p hp).2.2.2.2.1
  simp only [geomRegs, frameSize, BitVec.toNat_ofNat]
  rcases planes_cases f with hf | hf
  · simp only [hf, List.forall_mem_cons, List.map_cons, List.map_nil, List.sum_cons, List.sum_nil] at hsize hlt ⊢
    omega
  · have habsent : (planeGeomRegs f layout .p2).size.toNat = 0 := by
      rw [planeGeomRegs_of_not_mem (by simp [hf])]; rfl
    simp only [hf, List.forall_mem_cons, List.map_cons, List.map_nil, List.sum_cons, List.sum_nil] at hsize hlt ⊢
    omega

theorem geomRegs_legal {s : State} {f : Format} {layout : Plane → PlaneLayout}
    (hb : ∀ p ∈ f.planes, LayoutBounded (layout p)) (hg : s.geom = geomRegs f layout) : s.GeometryLegal := by
  unfold State.GeometryLegal
  rw [hg]
  refine ⟨planeGeomRegs_legal hb .p0, planeGeomRegs_legal hb .p1, planeGeomRegs_legal hb .p2, .inr ?_,
    geomRegs_frame hb⟩
  rcases planes_cases f with hf | hf
  · exact .inr (by simp [geomRegs, Format.nplanes, hf])
  · exact .inl ⟨by simp [geomRegs, Format.nplanes, hf], planeGeomRegs_of_not_mem (by simp [hf])⟩

/-- The GEOM_* registers of a memory geometry whose checks passed are legal (40_geometry.md R109, R110). -/
theorem memGeometry_legal {s : State} {al : AlignRegs} {f : Format} {c w h : Word}
    (hf : shapeFormat c w h = some f) (hal : alignsOK al f = true)
    (hg : s.geom = geomRegs f (memLayout al f w.toNat h.toNat)) : s.GeometryLegal :=
  geomRegs_legal (fun p hp => memLayout_bounded (shapeFormat_eq_some.mp hf).2 (List.all_eq_true.mp hal p hp)) hg

theorem blockReset_geometryLegal (s : State) : s.blockReset.GeometryLegal := by
  unfold State.GeometryLegal
  exact ⟨planeGeom_zero_legal, planeGeom_zero_legal, planeGeom_zero_legal, .inl ⟨rfl, rfl, rfl, rfl⟩, rfl⟩

theorem CommandEffect.geometryLegal {s t : State} {i : Instr} (h : CommandEffect s i t) (hs : s.GeometryLegal) :
    t.GeometryLegal := by
  cases h with
  | geomFile hf => exact memGeometry_legal hf (alignsOK_zeroAlign _) (by rw [memLayout_zeroAlign]; rfl)
  | geomMem hf hal => exact memGeometry_legal hf hal rfl
  | _ => exact hs

theorem MoveEffect.geometryLegal {s t : State} {e : Event} (h : MoveEffect s e t) (hs : s.GeometryLegal) :
    t.GeometryLegal := by
  cases h with
  | command _ _ ht => exact ht.geometryLegal hs
  | reset | resetFrame | resetCodec => exact blockReset_geometryLegal _
  | regWrite r =>
    unfold State.GeometryLegal
    rwa [writeReg_geom]
  | aside | illegalWord | memWrite | streamAppend | streamTruncate => exact hs

/-! ### FC_COUNT and FC_EXTENT -/

theorem writeReg_fcCount (r : Reg) (v : Word) (s : State) : (writeReg r v s).fc.count = s.fc.count := by
  cases r <;> rfl

theorem writeReg_fcExtent (r : Reg) (v : Word) (s : State) : (writeReg r v s).fc.extent = s.fc.extent := by
  cases r <;> rfl

/-- Whole extents of a length that fits a register fit it too (40_geometry.md R120). -/
theorem frameCountLegal_of_quotient {t : State} {n e : Nat} (hn : n < 2 ^ 64)
    (hcount : t.fc.count = BitVec.ofNat 64 (n / e)) (hextent : t.fc.extent = BitVec.ofNat 64 e) :
    t.FrameCountLegal := by
  unfold State.FrameCountLegal
  rw [hcount, hextent, BitVec.toNat_ofNat, BitVec.toNat_ofNat]
  calc n / e % 2 ^ 64 * (e % 2 ^ 64) ≤ n / e * e := Nat.mul_le_mul (Nat.mod_le _ _) (Nat.mod_le _ _)
    _ ≤ n := Nat.div_mul_le_self n e
    _ < 2 ^ 64 := hn

theorem CommandEffect.frameCountLegal {s t : State} {i : Instr} (h : CommandEffect s i t) (hs : s.FrameCountLegal) :
    t.FrameCountLegal := by
  cases h with
  | fcount => exact frameCountLegal_of_quotient (by have := s.fc.len.isLt; omega) rfl rfl
  | _ => exact hs

theorem blockReset_frameCountLegal (s : State) : s.blockReset.FrameCountLegal := by
  simp [State.FrameCountLegal, State.reset]

theorem MoveEffect.frameCountLegal {s t : State} {e : Event} (h : MoveEffect s e t) (hs : s.FrameCountLegal) :
    t.FrameCountLegal := by
  cases h with
  | command _ _ ht => exact ht.frameCountLegal hs
  | reset | resetFrame | resetCodec => exact blockReset_frameCountLegal _
  | regWrite r =>
    unfold State.FrameCountLegal
    rwa [writeReg_fcCount, writeReg_fcExtent]
  | aside | illegalWord | memWrite | streamAppend | streamTruncate => exact hs

/-- Settles O58: a geometry result is bounded plane by plane, and a quotient times its divisor stays below the length. -/
theorem stepKeepsResultsLegal : Obligations.StepKeepsResultsLegal :=
  fun _ _ ⟨hgeom, hcount⟩ h =>
    ⟨step_preserves (P := State.GeometryLegal) (fun _ => id) MoveEffect.geometryLegal hgeom h,
      step_preserves (P := State.FrameCountLegal) (fun _ => id) MoveEffect.frameCountLegal hcount h⟩

end Sys2Proof.Proofs
end

section
/-! Words as commands (30_encoding.md R80 to R82), and what a step does to the stream, to STREAM_ERR and to STREAM_POS. -/

namespace Sys2Proof.Proofs

open Sys2Proof.Machine

/-! ### Words and commands -/

@[simp] theorem decode_encode (i : Instr) : decode (encode i) = .ok i := by
  cases i <;> rfl

theorem opcodeMap_eq_some {n : Nat} {i : Instr} (h : opcodeMap n = some i) : n = (encode i).toNat := by
  unfold opcodeMap at h
  split at h
  all_goals cases h
  all_goals rfl

/-- With RSVD = 0 a word is its opcode (30_encoding.md R80). -/
theorem opcField_toNat_of_rsvdField {w : Word} (h : rsvdField w = 0) : (opcField w).toNat = w.toNat := by
  have hrsvd : (rsvdField w).toNat = 0 := by rw [h]; rfl
  simp only [rsvdField, opcField, BitVec.extractLsb'_toNat, Nat.shiftRight_eq_div_pow] at hrsvd ⊢
  omega

/-- A command has one word. -/
theorem eq_encode_of_decode {w : Word} {i : Instr} (h : decode w = .ok i) : w = encode i := by
  unfold decode at h
  split at h
  · cases h
  · next hrsvd =>
    split at h
    · cases h
    · next j hj =>
      cases h
      apply BitVec.eq_of_toNat_eq
      rw [← opcField_toNat_of_rsvdField (not_not.mp hrsvd)]
      exact opcodeMap_eq_some hj

theorem runningCommand_eq_some {s : State} {i : Instr} :
    runningCommand s = some i ↔ s.inFlight = some (encode i) := by
  unfold runningCommand
  constructor
  · intro h
    split at h
    · cases h
    · next w hw =>
      split at h
      · cases h
      · next j hj =>
        cases h
        rw [hw, eq_encode_of_decode hj]
  · intro h
    simp [h]

/-! ### STREAM_ERR (10_state.md R36) -/

/-- Of the commands STRCLR alone clears STREAM_ERR. -/
theorem CommandEffect.streamErr {s t : State} {i : Instr} (h : CommandEffect s i t)
    (hs : s.status.streamErr = true) : t.status.streamErr = true ∨ i = .strclr := by
  cases h with
  | strclr => exact .inr rfl
  | frameRefused => exact .inl rfl
  | frameBusError => exact .inl (by simp [hs])
  | _ => exact .inl hs

/-- Of the moves a reset and the turn of STRCLR alone clear STREAM_ERR. -/
theorem MoveEffect.streamErr {s t : State} {e : Event} (h : MoveEffect s e t) (hs : s.status.streamErr = true) :
    t.status.streamErr = true ∨ e = .reset ∨ e = .engine ∧ s.inFlight = some (encode .strclr) := by
  cases h with
  | command hw hi ht =>
    rcases ht.streamErr hs with hset | rfl
    · exact .inl hset
    · exact .inr (.inr ⟨rfl, by rw [hw, eq_encode_of_decode hi]⟩)
  | reset | resetFrame | resetCodec => exact .inr (.inl rfl)
  | @regWrite _ _ v r =>
    left
    rcases writeReg_engine r v s with ⟨_, hissue⟩ | ⟨_, hstatus⟩
    · rw [hissue]; exact hs
    · rw [hstatus]; exact hs
  | aside | illegalWord | memWrite | streamAppend | streamTruncate => exact .inl hs

/-- Settles O35: the cases of a move in which STREAM_ERR falls. -/
theorem streamErrorIsSticky : Obligations.StreamErrorIsSticky := by
  intro s t h hs
  rcases (step_effect h).streamErr hs with hset | hreset | ⟨hengine, hflight⟩
  · exact .inl hset
  · cases he : s.events with
    | nil => simp [he] at hreset
    | cons e es => exact .inr (.inl (by simpa [he] using hreset))
  · cases he : s.events with
    | nil => exact .inr (.inr ⟨.inl rfl, hflight⟩)
    | cons e es => exact .inr (.inr ⟨.inr (by simpa [he] using hengine), hflight⟩)

/-! ### The stream and STREAM_POS (10_state.md R28, R38) -/

theorem posAfter_toNat {pos : Word} {k : Nat} (h : pos.toNat + k < 2 ^ 64) : (posAfter pos k).toNat = pos.toNat + k := by
  rw [posAfter, if_pos h, BitVec.toNat_ofNat, Nat.mod_eq_of_lt h]

@[simp] theorem posAfter_zero (pos : Word) : posAfter pos 0 = pos :=
  BitVec.eq_of_toNat_eq (posAfter_toNat pos.isLt)

/-- A command appends bytes to the stream, perhaps none, and STREAM_POS counts them but in STRCLR. -/
theorem CommandEffect.stream_eq_append {s t : State} {i : Instr} (h : CommandEffect s i t) :
    ∃ bs : List Byte, t.stream = s.stream ++ bs ∧ (i ≠ .strclr → t.streamPos = posAfter s.streamPos bs.length) := by
  cases h with
  | frameAppended | frameRefused | frameBusError => exact ⟨_, rfl, fun _ => rfl⟩
  | strclr => exact ⟨[], by simp, by simp⟩
  | _ => exact ⟨[], by simp, by simp⟩

theorem CommandEffect.stream_prefix {s t : State} {i : Instr} (h : CommandEffect s i t) : s.stream <+: t.stream := by
  obtain ⟨bs, hbs, _⟩ := h.stream_eq_append
  exact ⟨bs, hbs.symm⟩

theorem MoveEffect.stream_prefix {s t : State} {e : Event} (h : MoveEffect s e t)
    (he : ∀ n, e ≠ .streamTruncate n) : s.stream <+: t.stream := by
  cases h with
  | command _ _ ht => exact ht.stream_prefix
  | resetFrame | streamAppend => exact List.prefix_append _ _
  | regWrite r => rw [writeReg_stream]
  | streamTruncate => exact absurd rfl (he _)
  | aside | illegalWord | reset | resetCodec | memWrite => exact List.prefix_refl _

/-- Settles O36: every move but a truncation appends. -/
theorem streamIsAppendOnly : Obligations.StreamIsAppendOnly := by
  intro s t h hne
  refine (step_effect h).stream_prefix fun n hn => ?_
  cases he : s.events with
  | nil => simp [he] at hn
  | cons e es => exact hne n (by simpa [he] using hn)

/-- Settles O37: both the stream and STREAM_POS follow from the bytes that the command emitted. -/
theorem streamPosCountsAcceptedBytes : Obligations.StreamPosCountsAcceptedBytes := by
  intro i s t h hi hfits
  obtain ⟨bs, hbs, hpos⟩ := (exec_effect h).stream_eq_append
  have hgrown : t.stream.length - s.stream.length = bs.length := by simp [hbs]
  rw [hgrown] at hfits ⊢
  rw [hpos hi, posAfter_toNat hfits]

end Sys2Proof.Proofs
end

section
/-! The register map (10_state.md R21), the word of STATUS (R24) and the register bus (R20, R23). -/

namespace Sys2Proof.Proofs

open Sys2Proof.Machine

/-! ### The register map -/

theorem regAt_eq_none {off : Nat} : regAt off = none ↔ ∀ row ∈ regMap, row.1 ≠ off := by
  simp [regAt]

theorem regAt_of_mem_regMap : ∀ row ∈ regMap, regAt row.1 = some row.2 := by decide

theorem mem_regMap_of_regAt {off : Nat} {r : Reg} (h : regAt off = some r) : (off, r) ∈ regMap := by
  obtain ⟨⟨o, q⟩, hfind, rfl⟩ := Option.map_eq_some_iff.mp h
  obtain rfl : o = off := by simpa using List.find?_some hfind
  exact List.mem_of_find?_eq_some hfind

theorem aligned_of_regAt {off : Nat} {r : Reg} (h : regAt off = some r) : off % 8 = 0 :=
  regMap_aligned _ (mem_regMap_of_regAt h)

/-- The rows of 10_state.md R21 list the offsets and the registers of the map, in its order. -/
theorem registerRows_map (s : State) : (registerRows s).map (fun row => (row.offset, row.reg)) = regMap := rfl

theorem regAt_of_mem_registerRows {s : State} {row : RegisterRow} (h : row ∈ registerRows s) :
    regAt row.offset = some row.reg := by
  refine regAt_of_mem_regMap (row.offset, row.reg) ?_
  rw [← registerRows_map s]
  exact List.mem_map_of_mem h

theorem mem_registerRows_of_mem_regMap {s : State} {off : Nat} {r : Reg} (h : (off, r) ∈ regMap) :
    ∃ row ∈ registerRows s, row.offset = off := by
  rw [← registerRows_map s] at h
  obtain ⟨row, hrow, heq⟩ := List.mem_map.mp h
  exact ⟨row, hrow, congrArg Prod.fst heq⟩

/-! ### STATUS as a word -/

theorem toNat_append_eq_add {m n : Nat} (x : BitVec m) (y : BitVec n) :
    (x ++ y).toNat = x.toNat * 2 ^ n + y.toNat := by
  rw [BitVec.toNat_append, ← Nat.shiftLeft_add_eq_or_of_lt y.isLt, Nat.shiftLeft_eq]

/-- STATUS as a number: each field at the place of its lowest bit (10_state.md R24). -/
theorem statusWord_toNat (s : State) :
    s.statusWord.toNat = s.inFlight.isSome.toNat + 2 * s.status.done.toNat + 256 * s.status.err.code.toNat +
      65536 * s.status.streamErr.toNat := by
  simp only [State.statusWord, State.busy, toNat_append_eq_add, BitVec.toNat_ofBool, BitVec.toNat_ofNat]
  omega

/-- The same word, as the register map writes it. -/
theorem statusWord_eq_ofNat (s : State) :
    s.statusWord = BitVec.ofNat 64 (s.inFlight.isSome.toNat + 2 * s.status.done.toNat +
      256 * s.status.err.code.toNat + 65536 * s.status.streamErr.toNat) := by
  rw [← statusWord_toNat, BitVec.ofNat_toNat, BitVec.setWidth_eq]

theorem getLsbD_of_div_mod {w i : Nat} {x : BitVec w} {b : Bool} (h : x.toNat / 2 ^ i % 2 = b.toNat) :
    x.getLsbD i = b := by
  rw [BitVec.getLsbD, Nat.testBit_eq_decide_div_mod_eq, h]
  cases b <;> rfl

theorem extractLsb'_of_div_mod {w start len : Nat} {x : BitVec w} {y : BitVec len}
    (h : x.toNat / 2 ^ start % 2 ^ len = y.toNat) : x.extractLsb' start len = y := by
  apply BitVec.eq_of_toNat_eq
  rw [BitVec.extractLsb'_toNat, Nat.shiftRight_eq_div_pow, h]

/-- Settles O9: the fields of STATUS are read off its number. -/
theorem statusWordHasItsFields : Obligations.StatusWordHasItsFields := by
  refine ⟨fun s => ?_, rfl, rfl, rfl, rfl, rfl, rfl, rfl, rfl, rfl, rfl⟩
  have hword := statusWord_toNat s
  have herr : s.status.err.code.toNat < 256 := s.status.err.code.isLt
  have hdone : s.status.done.toNat ≤ 1 := Bool.toNat_le _
  have hbusy : s.inFlight.isSome.toNat ≤ 1 := Bool.toNat_le _
  have hstream : s.status.streamErr.toNat ≤ 1 := Bool.toNat_le _
  simp only [readReg]
  refine ⟨getLsbD_of_div_mod ?_, getLsbD_of_div_mod ?_, extractLsb'_of_div_mod (y := 0#6) ?_,
    extractLsb'_of_div_mod ?_, getLsbD_of_div_mod ?_, extractLsb'_of_div_mod (y := 0#47) ?_⟩
  all_goals
    norm_num [hword]
    omega

/-- The access and the contents that the rows of 10_state.md R21 give their registers. -/
theorem registerRows_access_value (s : State) :
    ∀ row ∈ registerRows s, row.reg.access = row.access ∧ readReg row.reg s = row.value := by
  simp only [registerRows, controlRows, geometryRows, srcRows, dstRows, blkRows, List.cons_append, List.nil_append,
    List.forall_mem_cons]
  have hstatus := statusWord_eq_ofNat s
  simp [readReg, Reg.access, hstatus, Config.idValue, AlignRegs.plane, GeomRegs.plane, FrameRegs.plane]

/-- Settles O7: the rows of R21 and the map list the same offsets and registers. -/
theorem registerMapHasItsRows : Obligations.RegisterMapHasItsRows := by
  intro s
  refine ⟨fun row hrow => ⟨regAt_of_mem_registerRows hrow, registerRows_access_value s row hrow⟩, fun off hoff => ?_⟩
  rw [regAt_eq_none]
  intro ⟨o, r⟩ hmem
  obtain ⟨row, hrow, rfl⟩ := mem_registerRows_of_mem_regMap (s := s) hmem
  exact hoff row hrow

/-! ### A read after a write -/

/-- Two different registers stand in different fields of the state, a register and itself in one: what a host write of an
RW register leaves every register to read as (10_state.md R20, R26). -/
theorem readReg_writeReg {r : Reg} (hrw : r.access = .rw) (r' : Reg) (v : Word) (s : State) :
    readReg r' (writeReg r v s) =
      if r' = r then (if r = .ctrl then v &&& 1 else v) else readReg r' s := by
  cases r
  case alignStride p | alignLines p | alignSize p | srcAddr p | srcStride p | srcLen p | dstAddr p | dstStride p
      | dstLen p =>
    cases p
    all_goals
      cases r'
      case alignStride q | alignLines q | alignSize q | srcAddr q | srcStride q | srcLen q | dstAddr q | dstStride q
          | dstLen q =>
        cases q
        all_goals rfl
      all_goals rfl
  case srcFmt | srcW | srcH | dstFmt | dstW | dstH =>
    cases r'
    case srcAddr q | srcStride q | srcLen q | dstAddr q | dstStride q | dstLen q =>
      cases q
      all_goals rfl
    all_goals rfl
  case ctrl | cfgFmt | cfgW | cfgH | fcLen | fcHdr | blkIn0 | blkIn1 | blkIn2 | blkIn3 | blkPk =>
    cases r'
    all_goals rfl
  all_goals cases hrw

theorem writeReg_of_ro {r : Reg} (hro : r.access = .ro) (v : Word) (s : State) : writeReg r v s = s := by
  cases r
  case id | status | streamPos | fcCount | fcExtent | geomNPlanes | geomRowBytes | geomLines | geomStride | geomSize
      | geomFrame | blkOut0 | blkOut1 | blkOut2 | blkOut3 => rfl
  all_goals cases hro

theorem writeReg_inFlight_of_rw {r : Reg} (hrw : r.access = .rw) (v : Word) (s : State) :
    (writeReg r v s).inFlight = s.inFlight := by
  rcases writeReg_engine r v s with ⟨rfl, _⟩ | ⟨hflight, _⟩
  · cases hrw
  · exact hflight

/-! ### The register bus -/

section RegisterBus

variable {s : State} {off bytes : Nat} {r : Reg}

theorem accessOK_iff : accessOK off bytes = true ↔ bytes = 8 ∧ off % 8 = 0 := by
  simp [accessOK]

theorem windowOffset_base_add (hoff : off < 0x448) : windowOffset s (s.params.regBase + off) = some off := by
  have hin : s.params.regBase ≤ s.params.regBase + off ∧
      s.params.regBase + off < s.params.regBase + Config.windowBytes :=
    ⟨by omega, by rw [Config.windowBytes]; omega⟩
  rw [windowOffset, if_pos hin, Nat.add_sub_cancel_left]

/-- A narrow or misaligned access of the window faults (10_state.md R20). -/
theorem regMoves_of_bad (v : Word) (hoff : off < 0x448) (hbad : ¬(bytes = 8 ∧ off % 8 = 0)) :
    regWriteMove (s.params.regBase + off) bytes v s = .fault .badRegisterAccess ∧
      regReadMove (s.params.regBase + off) bytes s = .fault .badRegisterAccess := by
  have haccess : accessOK off bytes = false := by simpa using mt accessOK_iff.mp hbad
  simp [regWriteMove, regReadMove, windowOffset_base_add hoff, haccess]

/-- An unlisted offset reads 0 and ignores writes (10_state.md R20). -/
theorem regMoves_of_unlisted (v : Word) (hoff : off < 0x448) (halign : off % 8 = 0) (hreg : regAt off = none) :
    regWriteMove (s.params.regBase + off) 8 v s = .next s ∧
      regReadMove (s.params.regBase + off) 8 s = .next (s.withSeen (.word 0)) := by
  simp [regWriteMove, regReadMove, windowOffset_base_add hoff, accessOK_iff.mpr ⟨rfl, halign⟩, hreg]

theorem lt_of_regAt (hreg : regAt off = some r) : off < 0x448 := by
  have hrows : ∀ row ∈ regMap, row.1 < 0x448 := by decide
  exact hrows _ (mem_regMap_of_regAt hreg)

theorem regWriteMove_of_idle (v : Word) (hreg : regAt off = some r) (hidle : s.inFlight = none) :
    regWriteMove (s.params.regBase + off) 8 v s = .next (writeReg r v s) := by
  simp [regWriteMove, windowOffset_base_add (lt_of_regAt hreg), accessOK_iff.mpr ⟨rfl, aligned_of_regAt hreg⟩, hreg,
    State.busy, hidle]

theorem regWriteMove_of_busy (v : Word) (hreg : regAt off = some r) (hbusy : s.inFlight ≠ none) :
    regWriteMove (s.params.regBase + off) 8 v s = .fault .registerWriteWhileBusy := by
  simp [regWriteMove, windowOffset_base_add (lt_of_regAt hreg), accessOK_iff.mpr ⟨rfl, aligned_of_regAt hreg⟩, hreg,
    State.busy, Option.isSome_iff_ne_none.mpr hbusy]

theorem regReadMove_of_idle (hreg : regAt off = some r) (hidle : s.inFlight = none) :
    regReadMove (s.params.regBase + off) 8 s = .next (s.withSeen (.word (readReg r s))) := by
  simp [regReadMove, windowOffset_base_add (lt_of_regAt hreg), accessOK_iff.mpr ⟨rfl, aligned_of_regAt hreg⟩, hreg,
    State.busy, hidle]

end RegisterBus

/-- No register reads the pending moves. -/
theorem readReg_withEvents (r : Reg) (es : List Event) (s : State) : readReg r (s.withEvents es) = readReg r s := by
  cases r <;> rfl

/-- Settles O6: the four kinds of access, each by what the register bus does with it. -/
theorem registerBusFollowsAccessRules : Obligations.RegisterBusFollowsAccessRules := by
  intro s es off bytes v hoff hidle wr rd s'
  have hidle' : s'.inFlight = none := hidle
  refine ⟨fun hbad => ?_, ?_, fun r hbytes hreg => ?_⟩
  · exact regMoves_of_bad (s := s') v hoff (by omega)
  · rintro rfl halign hreg
    exact regMoves_of_unlisted (s := s') v hoff halign hreg
  · subst hbytes
    have hwr : wr = .next (writeReg r v s') := regWriteMove_of_idle v hreg hidle'
    have hrd : rd = .next (s'.withSeen (.word (readReg r s'))) := regReadMove_of_idle hreg hidle'
    have hread : ∀ q, readReg q s' = readReg q s := fun q => readReg_withEvents q es s
    refine ⟨aligned_of_regAt hreg, ?_, fun hro => ?_, fun hrw => ?_⟩
    · rw [hrd, hread]; rfl
    · rw [hwr, writeReg_of_ro hro]
    · refine ⟨_, hwr, ?_, fun r' hne => ?_, (writeReg_inFlight_of_rw hrw v s').trans hidle', writeReg_mem r v s',
        writeReg_stream r v s', writeReg_params r v s', writeReg_port r v s', writeReg_sink r v s',
        writeReg_events r v s', writeReg_seen r v s', writeReg_draws r v s'⟩
      · rw [readReg_writeReg hrw, if_pos rfl]
      · rw [readReg_writeReg hrw, if_neg hne, hread]

/-! ### Issue, and the engine's turn -/

theorem engineTurn_of_decode {s : State} {w : Word} {i : Instr} (hw : s.inFlight = some w) (hi : decode w = .ok i) :
    engineTurn s = exec i s := by
  simp [engineTurn, hw, hi]

/-- Settles O4: either way the engine takes its turn on the word in flight. -/
theorem stepRunsDecodedCommand : Obligations.StepRunsDecodedCommand := by
  intro s w i hw hi
  refine ⟨fun hes => ?_, fun es hes => ?_⟩
  · have hstep : step s = engineTurn s := by simp [step, nextMove, hes]
    rw [hstep, engineTurn_of_decode hw hi]
  · have hstep : step s = engineTurn (s.withEvents es) := by simp [step, nextMove, hes, move]
    rw [hstep]
    exact engineTurn_of_decode (s := s.withEvents es) hw hi

theorem tableWord_encode (i : Instr) : tableWord 64 (encode i).toNat = encode i := by
  cases i <;> rfl

/-- Settles O5: a placed word is in flight, with the engine to move. -/
theorem placedWordRunsNext : Obligations.PlacedWordRunsNext := by
  intro s i
  have hstep : step (s.withFetchWord 64 (encode i).toNat) = engineTurn (s.issue (encode i)) := by
    rw [State.withFetchWord, tableWord_encode]
    rfl
  rw [hstep, engineTurn_of_decode rfl (decode_encode i)]
  rfl

/-- Settles O8: CMD is a register of the map, whose write is an issue. -/
theorem cmdWriteIssuesTheWord : Obligations.CmdWriteIssuesTheWord := by
  intro s es w wr
  have hcmd : regAt 0x008 = some .cmd := by decide
  have hissue : s.inFlight = none → wr = .next ((s.withEvents es).issue w) :=
    fun hidle => regWriteMove_of_idle (s := s.withEvents es) w hcmd hidle
  refine ⟨hissue, ?_, fun hbusy => regWriteMove_of_busy (s := s.withEvents es) w hcmd hbusy, rfl⟩
  rintro i rfl rfl hidle
  exact ⟨_, hissue hidle, (stepRunsDecodedCommand _ _ i rfl (decode_encode i)).1 rfl⟩

end Sys2Proof.Proofs
end

section
/-! Accesses of host memory and the stream by the agents around the block (10_state.md R37, R38, 70_reset_and_hazards.md
R240 H4, R243). -/

namespace Sys2Proof.Proofs

open Sys2Proof.Machine

/-! ### The windows of the running command -/

theorem runningSrcWindows_eq_nil {s : State} (hpack : runningCommand s ≠ some .pack)
    (hunpack : runningCommand s ≠ some .unpack) (hframe : runningCommand s ≠ some .wrframe) :
    runningSrcWindows s = [] := by
  unfold runningSrcWindows
  split
  · next h => exact absurd h hframe
  · next h => exact absurd h hpack
  · next h => exact absurd h hunpack
  all_goals rfl

theorem runningDstWindows_eq_nil {s : State} (hpack : runningCommand s ≠ some .pack)
    (hunpack : runningCommand s ≠ some .unpack) : runningDstWindows s = [] := by
  unfold runningDstWindows
  split
  · next h => exact absurd h hpack
  · next h => exact absurd h hunpack
  all_goals rfl

/-! ### Host memory -/

section HostMemory

variable {s : State} {a : Nat}

theorem memMoves_of_no_address (b : Byte) (ha : 2 ^ s.params.addrW ≤ a) :
    memWriteMove a b s = .fault .noSuchAddress ∧ memReadMove a s = .fault .noSuchAddress := by
  simp [memWriteMove, memReadMove, Nat.not_lt.mpr ha]

theorem memWriteMove_of_no_window (b : Byte) (ha : a < 2 ^ s.params.addrW)
    (hw : inWindows (runningSrcWindows s ++ runningDstWindows s) a = false) :
    memWriteMove a b s = .next (s.withMem (s.mem.write a b)) := by
  simp [memWriteMove, ha, hw]

theorem memReadMove_of_no_window (ha : a < 2 ^ s.params.addrW) (hw : inWindows (runningDstWindows s) a = false) :
    memReadMove a s = .next (s.withSeen (.byte (s.mem.read a))) := by
  simp [memReadMove, ha, hw]

end HostMemory

theorem read_write {m : Memory} (hm : m.wf = true) (a : Nat) (b : Byte) (x : Nat) :
    (m.write a b).read x = if x = a then b else m.read x := by
  by_cases hx : x = a
  · rw [if_pos hx, hx, Memory.read_write_self b hm]
  · rw [if_neg hx, Memory.read_write_other m b hx]

/-! ### The stream -/

section Stream

variable {s : State} {n : Nat}

theorem streamMoves_of_no_frame (bs : List Byte) (hframe : runningCommand s ≠ some .wrframe) :
    streamAppendMove bs s = .next (s.withStream (s.stream ++ bs)) ∧
      streamTruncateMove n s = .next (s.withStream (s.stream.take n)) := by
  simp [streamAppendMove, streamTruncateMove, hframe]

theorem streamReadMove_of_byte {c : Byte} (hidle : s.inFlight = none) (hc : s.stream[n]? = some c) :
    streamReadMove n s = .next (s.withSeen (.byte c)) := by
  simp [streamReadMove, State.busy, hidle, hc]

theorem streamReadMove_of_end (hidle : s.inFlight = none) (hn : s.stream.length ≤ n) :
    streamReadMove n s = .next (s.withSeen .endOfStream) := by
  simp [streamReadMove, State.busy, hidle, List.getElem?_eq_none hn]

theorem streamReadMove_of_busy (hbusy : s.inFlight ≠ none) :
    streamReadMove n s = .next (s.withSeen (.byte (Config.drawByte s.draws))).drew := by
  simp [streamReadMove, State.busy, Option.isSome_iff_ne_none.mpr hbusy]

end Stream

/-- Settles O12: with no frame command in flight no window stands in the way of an access. -/
theorem memoryAndStreamMovesOutsideFrames : Obligations.MemoryAndStreamMovesOutsideFrames := by
  intro s es a b bs n s'
  refine ⟨fun ha => memMoves_of_no_address (s := s') b ha, fun hpack hunpack hframe => ?_,
    fun hidle => ⟨fun c hc => streamReadMove_of_byte (s := s') hidle hc,
      fun hn => streamReadMove_of_end (s := s') hidle hn⟩,
    fun hbusy => streamReadMove_of_busy (s := s') hbusy, fun hm x => read_write hm a b x⟩
  have hpack' : runningCommand s' ≠ some .pack := mt runningCommand_eq_some.mp hpack
  have hunpack' : runningCommand s' ≠ some .unpack := mt runningCommand_eq_some.mp hunpack
  have hframe' : runningCommand s' ≠ some .wrframe := mt runningCommand_eq_some.mp hframe
  have hsrc : runningSrcWindows s' = [] := runningSrcWindows_eq_nil hpack' hunpack' hframe'
  have hdst : runningDstWindows s' = [] := runningDstWindows_eq_nil hpack' hunpack'
  refine ⟨fun ha => ⟨memWriteMove_of_no_window (s := s') b ha ?_, memReadMove_of_no_window (s := s') ha ?_⟩,
    streamMoves_of_no_frame (s := s') bs hframe'⟩
  · rw [hsrc, hdst]; rfl
  · rw [hdst]; rfl

end Sys2Proof.Proofs
end

section
/-! The opcode map (30_encoding.md R80 to R84): a word against the rows of R82, and what the engine makes of it. -/

namespace Sys2Proof.Proofs

open Sys2Proof.Machine

/-- Settles O1: a command has one word, and its word decodes to it. -/
theorem decodeSelectsExactlyItsWord : Obligations.DecodeSelectsExactlyItsWord :=
  fun _ i => ⟨eq_encode_of_decode, fun h => h ▸ decode_encode i⟩

/-- Settles O2: the words of the rows are those that `encode` lists. -/
theorem opcodeMapWordsDecode : Obligations.OpcodeMapWordsDecode :=
  ⟨decode_encode .nop, decode_encode .geomFile, decode_encode .geomMem, decode_encode .fcount, decode_encode .wrframe,
    decode_encode .strclr, decode_encode .blkpack16le, decode_encode .blkpack16be, decode_encode .blkpack8,
    decode_encode .blkunpack16le, decode_encode .blkunpack16be, decode_encode .blkunpack8, decode_encode .pack,
    decode_encode .unpack⟩

/-- The OPC and command columns of 30_encoding.md R82. -/
def opcodeRows : List (Nat × Instr) :=
  [(0x00, .nop), (0x01, .geomFile), (0x02, .geomMem), (0x03, .fcount), (0x10, .wrframe), (0x11, .strclr),
    (0x20, .blkpack16le), (0x21, .blkpack16be), (0x22, .blkpack8), (0x28, .blkunpack16le), (0x29, .blkunpack16be),
    (0x2A, .blkunpack8), (0x30, .pack), (0x31, .unpack)]

/-- The word of a row is its opcode under RSVD = 0. -/
theorem eq_toNat_encode_of_mem_opcodeRows : ∀ row ∈ opcodeRows, row.1 = (encode row.2).toNat := by decide

/-- Every command has its row. -/
theorem mem_opcodeRows (i : Instr) : ((encode i).toNat, i) ∈ opcodeRows := by
  cases i <;> decide

theorem opcodeRows_lt : ∀ row ∈ opcodeRows, row.1 < 256 := by decide

/-- RSVD = 0 and the OPC of a row select the row's command (30_encoding.md R81). -/
theorem decode_of_opcodeRow {w : Word} {row : Nat × Instr} (hrow : row ∈ opcodeRows) (hrsvd : w.toNat / 256 = 0)
    (hopc : w.toNat % 256 = row.1) : decode w = .ok row.2 := by
  have hnum : w.toNat = (encode row.2).toNat := by
    rw [← eq_toNat_encode_of_mem_opcodeRows row hrow]
    omega
  rw [BitVec.eq_of_toNat_eq hnum, decode_encode]

/-- A word that selects a command has RSVD = 0 and the OPC of a row (30_encoding.md R84). -/
theorem opcodeRow_of_decode {w : Word} {i : Instr} (h : decode w = .ok i) :
    w.toNat / 256 = 0 ∧ ∃ row ∈ opcodeRows, w.toNat % 256 = row.1 := by
  have hrow : (w.toNat, i) ∈ opcodeRows := by
    rw [eq_encode_of_decode h]
    exact mem_opcodeRows i
  have hlt : w.toNat < 256 := opcodeRows_lt _ hrow
  exact ⟨Nat.div_eq_of_lt hlt, _, hrow, Nat.mod_eq_of_lt hlt⟩

theorem engineTurn_of_illegal {s : State} {w : Word} (hw : s.inFlight = some w) (hi : ∀ i, decode w ≠ .ok i) :
    engineTurn s = .next (s.finish .illegalCommand) := by
  cases hd : decode w with
  | error r => simp [engineTurn, hw, hd, raise_def]
  | ok i => exact absurd hd (hi i)

/-- Settles O3: a word decodes exactly when RSVD is 0 and its OPC is that of a row. -/
theorem wordExecutesOneCommandOrIsIllegal : Obligations.WordExecutesOneCommandOrIsIllegal := by
  intro s w rows hrows hes hw
  obtain rfl : rows = opcodeRows := hrows
  refine ⟨fun row hrow hrsvd hopc => ?_, fun hbad => ?_⟩
  · exact (stepRunsDecodedCommand s w row.2 hw (decode_of_opcodeRow hrow hrsvd hopc)).1 hes
  · have hillegal : ∀ i, decode w ≠ .ok i := by
      intro i hi
      obtain ⟨hrsvd, row, hrow, hopc⟩ := opcodeRow_of_decode hi
      rcases hbad with hbad | hbad
      · exact hbad hrsvd
      · exact hbad row hrow hopc
    have hstep : step s = engineTurn s := by simp [step, nextMove, hes]
    rw [hstep, engineTurn_of_illegal hw hillegal]
    rfl

end Sys2Proof.Proofs
end

section
/-! What each command leaves unchanged (30_encoding.md R83). `CommandEffect` says so but for BLK_* and host memory,
whose cases there do not name their commands; these are followed through `exec` first. -/

namespace Sys2Proof.Proofs

open Sys2Proof.Machine

/-! ### BLK_* and host memory, command by command -/

section Frames

variable {i : Instr} {s t : State}

/-- A completion writes neither, whatever other part of the state was written before it. -/
theorem finish_blk_mem {u : State} {e : ErrCode} (h : t = u.finish e) (hblk : u.blk = s.blk) (hmem : u.mem = s.mem) :
    t.blk = s.blk ∧ t.mem = s.mem := by
  simp [h, hblk, hmem]

theorem geomFile_blk_mem (h : execGeomFile s = .next t) : t.blk = s.blk ∧ t.mem = s.mem := by
  unfold execGeomFile at h
  split at h
  · exact finish_blk_mem ((raise_eq_next ..).mp h) rfl rfl
  · exact finish_blk_mem ((complete_eq_next ..).mp h) rfl rfl

theorem geomMem_blk_mem (h : execGeomMem s = .next t) : t.blk = s.blk ∧ t.mem = s.mem := by
  unfold execGeomMem at h
  split at h
  · exact finish_blk_mem ((raise_eq_next ..).mp h) rfl rfl
  · split at h
    · exact finish_blk_mem ((complete_eq_next ..).mp h) rfl rfl
    · exact finish_blk_mem ((raise_eq_next ..).mp h) rfl rfl

theorem fcount_blk_mem (h : execFcount s = .next t) : t.blk = s.blk ∧ t.mem = s.mem := by
  unfold execFcount at h
  split at h
  · exact finish_blk_mem ((raise_eq_next ..).mp h) rfl rfl
  · split at h
    · dsimp only at h
      split at h
      · exact finish_blk_mem ((raise_eq_next ..).mp h) rfl rfl
      · split at h
        · exact finish_blk_mem ((raise_eq_next ..).mp h) rfl rfl
        · exact finish_blk_mem ((complete_eq_next ..).mp h) rfl rfl
    · exact finish_blk_mem ((raise_eq_next ..).mp h) rfl rfl

theorem wrframe_blk_mem (h : execWrframe s = .next t) : t.blk = s.blk ∧ t.mem = s.mem := by
  unfold execWrframe at h
  split at h
  · exact finish_blk_mem ((raise_eq_next ..).mp h) rfl rfl
  · rcases runFrame_cases h with ⟨_, rfl⟩ | ⟨_, rfl⟩ | ⟨_, _, _, rfl⟩ | ⟨_, rfl⟩
    all_goals exact ⟨rfl, rfl⟩

theorem runCodec_blk {p : CodecPlan} (h : runCodec p s = .next t) : t.blk = s.blk := by
  rcases runCodec_cases h with ⟨_, rfl⟩ | ⟨_, rfl⟩ | ⟨_, rfl⟩
  all_goals rfl

theorem pack_blk (h : execPack s = .next t) : t.blk = s.blk := by
  unfold execPack at h
  split at h
  · exact (finish_blk_mem ((raise_eq_next ..).mp h) rfl rfl).1
  · exact runCodec_blk h

theorem unpack_blk (h : execUnpack s = .next t) : t.blk = s.blk := by
  unfold execUnpack at h
  split at h
  · exact (finish_blk_mem ((raise_eq_next ..).mp h) rfl rfl).1
  · exact runCodec_blk h

/-- BLK_* and host memory after a command: unchanged, or written by a command of the codec family. -/
theorem exec_blk_mem (h : exec i s = .next t) :
    (t.blk = s.blk ∧ t.mem = s.mem) ∨
    ((i = .blkpack16le ∨ i = .blkpack16be ∨ i = .blkpack8) ∧ ∃ v, t = (s.withBlkPk v).finish .ok) ∨
    ((i = .blkunpack16le ∨ i = .blkunpack16be ∨ i = .blkunpack8) ∧
      ∃ v0 v1 v2 v3, t = (s.withBlkOut v0 v1 v2 v3).finish .ok) ∨
    ((i = .pack ∨ i = .unpack) ∧ t.blk = s.blk) := by
  cases i with
  | nop => exact .inl (finish_blk_mem ((complete_eq_next ..).mp h) rfl rfl)
  | geomFile => exact .inl (geomFile_blk_mem h)
  | geomMem => exact .inl (geomMem_blk_mem h)
  | fcount => exact .inl (fcount_blk_mem h)
  | wrframe => exact .inl (wrframe_blk_mem h)
  | strclr => exact .inl (finish_blk_mem ((complete_eq_next ..).mp h) rfl rfl)
  | blkpack16le | blkpack16be | blkpack8 => exact .inr (.inl ⟨by simp, _, (complete_eq_next ..).mp h⟩)
  | blkunpack16le | blkunpack16be | blkunpack8 =>
    exact .inr (.inr (.inl ⟨by simp, _, _, _, _, (complete_eq_next ..).mp h⟩))
  | pack => exact .inr (.inr (.inr ⟨.inl rfl, pack_blk h⟩))
  | unpack => exact .inr (.inr (.inr ⟨.inr rfl, unpack_blk h⟩))

/-- The single-block packs alone write BLK_PK (42_codec.md R161 to R163). -/
theorem exec_blkPk (h : exec i s = .next t) (h16le : i ≠ .blkpack16le) (h16be : i ≠ .blkpack16be)
    (h8 : i ≠ .blkpack8) : t.blk.pk = s.blk.pk := by
  rcases exec_blk_mem h with ⟨hblk, _⟩ | ⟨hi, _⟩ | ⟨_, _, _, _, _, rfl⟩ | ⟨_, hblk⟩
  · rw [hblk]
  · simp [h16le, h16be, h8] at hi
  · rfl
  · rw [hblk]

/-- The single-block unpacks alone write BLK_OUT0..3 (42_codec.md R164 to R166). -/
theorem exec_blkOut (h : exec i s = .next t) (h16le : i ≠ .blkunpack16le) (h16be : i ≠ .blkunpack16be)
    (h8 : i ≠ .blkunpack8) :
    t.blk.out0 = s.blk.out0 ∧ t.blk.out1 = s.blk.out1 ∧ t.blk.out2 = s.blk.out2 ∧ t.blk.out3 = s.blk.out3 := by
  rcases exec_blk_mem h with ⟨hblk, _⟩ | ⟨_, _, rfl⟩ | ⟨hi, _⟩ | ⟨_, hblk⟩
  · simp [hblk]
  · exact ⟨rfl, rfl, rfl, rfl⟩
  · simp [h16le, h16be, h8] at hi
  · simp [hblk]

/-- PACK and UNPACK alone write host memory (20_memory.md R60). -/
theorem exec_mem (h : exec i s = .next t) (hpack : i ≠ .pack) (hunpack : i ≠ .unpack) : t.mem = s.mem := by
  rcases exec_blk_mem h with ⟨_, hmem⟩ | ⟨_, _, rfl⟩ | ⟨_, _, _, _, _, rfl⟩ | ⟨hi, _⟩
  · exact hmem
  · rfl
  · rfl
  · simp [hpack, hunpack] at hi

/-! ### The other registers and the stream -/

/-- The registers that the host alone writes, but for FC_* and BLK_*. -/
theorem CommandEffect.hostRegs (h : CommandEffect s i t) :
    t.ctrl = s.ctrl ∧ t.cfg = s.cfg ∧ t.align = s.align ∧ t.src = s.src ∧ t.dst = s.dst := by
  cases h <;> exact ⟨rfl, rfl, rfl, rfl, rfl⟩

theorem CommandEffect.fcInputs (h : CommandEffect s i t) : t.fc.len = s.fc.len ∧ t.fc.hdr = s.fc.hdr := by
  cases h <;> exact ⟨rfl, rfl⟩

theorem CommandEffect.blkInputs (h : CommandEffect s i t) :
    t.blk.in0 = s.blk.in0 ∧ t.blk.in1 = s.blk.in1 ∧ t.blk.in2 = s.blk.in2 ∧ t.blk.in3 = s.blk.in3 := by
  cases h <;> exact ⟨rfl, rfl, rfl, rfl⟩

theorem CommandEffect.geom_eq (h : CommandEffect s i t) (hfile : i ≠ .geomFile) (hmem : i ≠ .geomMem) :
    t.geom = s.geom := by
  cases h with
  | geomFile => exact absurd rfl hfile
  | geomMem => exact absurd rfl hmem
  | _ => rfl

theorem CommandEffect.fc_eq (h : CommandEffect s i t) (hi : i ≠ .fcount) : t.fc = s.fc := by
  cases h with
  | fcount => exact absurd rfl hi
  | _ => rfl

theorem CommandEffect.streamRegs (h : CommandEffect s i t) (hframe : i ≠ .wrframe) (hclear : i ≠ .strclr) :
    t.streamPos = s.streamPos ∧ t.status.streamErr = s.status.streamErr := by
  cases h with
  | frameAppended | frameRefused | frameBusError => exact absurd rfl hframe
  | strclr => exact absurd rfl hclear
  | _ => exact ⟨rfl, rfl⟩

theorem CommandEffect.stream_eq (h : CommandEffect s i t) (hframe : i ≠ .wrframe) : t.stream = s.stream := by
  cases h with
  | frameAppended | frameRefused | frameBusError => exact absurd rfl hframe
  | _ => rfl

end Frames

/-- Settles O18: the frame of each part of the state, by what a command's effect is. -/
theorem commandsWriteOnlyTheirRegisters : Obligations.CommandsWriteOnlyTheirRegisters := by
  intro i s t h
  have heffect := exec_effect h
  obtain ⟨hctrl, hcfg, halign, hsrc, hdst⟩ := heffect.hostRegs
  obtain ⟨hlen, hhdr⟩ := heffect.fcInputs
  obtain ⟨hin0, hin1, hin2, hin3⟩ := heffect.blkInputs
  exact ⟨heffect.params_eq, hctrl, hcfg, halign, hsrc, hdst, hlen, hhdr, hin0, hin1, hin2, hin3, heffect.geom_eq,
    heffect.fc_eq, exec_blkPk h, exec_blkOut h, heffect.streamRegs, heffect.stream_eq, exec_mem h⟩

end Sys2Proof.Proofs
end

section
/-! The geometry commands (40_geometry.md): what the registry holds, what GEOM_FILE, GEOM_MEM and FCOUNT do at each
outcome of their checks, and the numbers that a geometry result leaves in the GEOM_* registers. -/

namespace Sys2Proof.Proofs

open Sys2Proof.Machine

/-! ### The checks -/

theorem shapeFormat_eq_some_iff_shapeHolds {c w h : Word} {f : Format} :
    shapeFormat c w h = some f ↔ ShapeHolds f c w h := by
  rw [shapeFormat_eq_some, dimsOK_iff, ShapeHolds]
  simp only [and_assoc]

theorem shapeFormat_eq_none_iff {c w h : Word} : shapeFormat c w h = none ↔ ∀ f, ¬ShapeHolds f c w h := by
  simp only [Option.eq_none_iff_forall_ne_some, ← shapeFormat_eq_some_iff_shapeHolds, ne_eq]

/-- The alignments that GEOM_MEM reads fit (40_geometry.md R112). -/
theorem alignsOK_iff {al : AlignRegs} {f : Format} :
    alignsOK al f = true ↔ ∀ p ∈ f.planes, (al.plane p).stride.toNat ≤ 65535 ∧ (al.plane p).lines.toNat ≤ 65535 ∧
      (al.plane p).size.toNat ≤ 65535 := by
  have hmax : Config.maxAlign = 65535 := rfl
  simp [alignsOK, planeAlignOK, hmax, and_assoc]

theorem markerFormatOK_iff {marker : Bool} {code : Word} :
    markerFormatOK marker code = true ↔ (marker = true → code = 1 ∨ code = 5) := by
  cases marker <;> simp [markerFormatOK]

/-! ### The geometry in the GEOM_* registers -/

theorem geomRegs_plane (f : Format) (layout : Plane → PlaneLayout) (p : Plane) :
    (geomRegs f layout).plane p = planeGeomRegs f layout p := by
  cases p <;> rfl

/-- No plane that the format lacks is read (40_geometry.md R102). -/
theorem geomRegs_congr {f : Format} {layout layout' : Plane → PlaneLayout}
    (h : ∀ p ∈ f.planes, layout p = layout' p) : geomRegs f layout = geomRegs f layout' := by
  have hplane : planeGeomRegs f layout = planeGeomRegs f layout' := by
    funext p
    by_cases hp : p ∈ f.planes
    · rw [planeGeomRegs_of_mem hp, planeGeomRegs_of_mem hp, h p hp]
    · rw [planeGeomRegs_of_not_mem hp, planeGeomRegs_of_not_mem hp]
  have hframe : frameSize f layout = frameSize f layout' :=
    congrArg List.sum (List.map_congr_left fun p hp => congrArg PlaneLayout.size (h p hp))
  simp only [geomRegs, hplane, hframe]

/-- A geometry result as 40_geometry.md R111 and R112 list it: the geometry of every plane of the format, 0 for a plane
it lacks, the plane count and the sum of the sizes. -/
def HoldsGeometry (g : GeomRegs) (f : Format) (layout : Plane → PlaneLayout) : Prop :=
  (∀ p ∈ f.planes,
    (g.plane p).rowBytes.toNat = (layout p).rowBytes ∧ (g.plane p).lines.toNat = (layout p).lines ∧
    (g.plane p).stride.toNat = (layout p).stride ∧ (g.plane p).size.toNat = (layout p).size) ∧
  (∀ p, p ∉ f.planes → g.plane p = PlaneGeom.zero) ∧
  g.nplanes.toNat = f.planes.length ∧
  g.frame.toNat = g.p0.size.toNat + g.p1.size.toNat + g.p2.size.toNat

/-- A bounded geometry fits the registers (40_geometry.md R110). -/
theorem geomRegs_holdsGeometry {f : Format} {layout : Plane → PlaneLayout}
    (hb : ∀ p ∈ f.planes, LayoutBounded (layout p)) : HoldsGeometry (geomRegs f layout) f layout := by
  refine ⟨fun p hp => ?_, fun p hp => ?_, ?_, geomRegs_frame hb⟩
  · obtain ⟨_, _, hrow, hstride, hsize, hlines⟩ := hb p hp
    rw [geomRegs_plane, planeGeomRegs_of_mem hp]
    exact ⟨toNat_ofNat_of_lt (by omega), toNat_ofNat_of_lt (by omega), toNat_ofNat_of_lt (by omega),
      toNat_ofNat_of_lt hsize⟩
  · rw [geomRegs_plane, planeGeomRegs_of_not_mem hp]
  · rcases planes_cases f with hf | hf
    all_goals simp [geomRegs, Format.nplanes, hf]

theorem fileLayout_bounded {f : Format} {w h : Nat} (hd : dimsOK f w h = true) (p : Plane) :
    LayoutBounded (fileLayout f w h p) := by
  rw [← memLayout_zeroAlign]
  exact memLayout_bounded hd (by rw [zeroAlign_plane]; rfl)

/-- A frame has at most three planes (40_geometry.md R110). -/
theorem frameSize_lt {f : Format} {layout : Plane → PlaneLayout} (hb : ∀ p ∈ f.planes, LayoutBounded (layout p)) :
    frameSize f layout < 2 ^ 38 := by
  have hsize : ∀ p ∈ f.planes, (layout p).size < 2 ^ 36 := by
    intro p hp
    obtain ⟨_, _, _, _, h, _⟩ := hb p hp
    exact h
  unfold frameSize
  rcases planes_cases f with hf | hf
  all_goals
    simp only [hf, List.forall_mem_cons, List.map_cons, List.map_nil, List.sum_cons, List.sum_nil] at hsize ⊢
    omega

/-! ### GEOM_FILE -/

theorem exec_geomFile_of_shape {s : State} {f : Format} (hf : shapeFormat s.cfg.fmt s.cfg.w s.cfg.h = some f) :
    exec .geomFile s = .next ((s.withGeom (geomRegs f (fileLayout f s.cfg.w.toNat s.cfg.h.toNat))).finish .ok) := by
  simp [exec, execGeomFile, hf, complete_def]

theorem exec_geomFile_of_bad_shape {s : State} (hf : shapeFormat s.cfg.fmt s.cfg.w s.cfg.h = none) :
    exec .geomFile s = .next (s.finish .invalidArgument) := by
  simp [exec, execGeomFile, hf, raise_def]

/-- Settles O24: the file geometry of a shape that ShapeOK accepts is bounded, so the registers hold it. -/
theorem geomFileWritesFileGeometry : Obligations.GeomFileWritesFileGeometry := by
  refine ⟨rfl, fun s => ⟨fun f hshape => ?_, fun hbad => exec_geomFile_of_bad_shape (shapeFormat_eq_none_iff.mpr hbad)⟩⟩
  have hf := shapeFormat_eq_some_iff_shapeHolds.mpr hshape
  have hdims := (shapeFormat_eq_some.mp hf).2
  exact ⟨_, exec_geomFile_of_shape hf, geomRegs_holdsGeometry fun p _ => fileLayout_bounded hdims p⟩

/-! ### GEOM_MEM -/

theorem exec_geomMem_of_checks {s : State} {f : Format} (hf : shapeFormat s.cfg.fmt s.cfg.w s.cfg.h = some f)
    (hal : alignsOK s.align f = true) :
    exec .geomMem s =
      .next ((s.withGeom (geomRegs f (memLayout s.align f s.cfg.w.toNat s.cfg.h.toNat))).finish .ok) := by
  simp [exec, execGeomMem, hf, hal, complete_def]

theorem exec_geomMem_of_refused {s : State}
    (h : ∀ f, shapeFormat s.cfg.fmt s.cfg.w s.cfg.h = some f → alignsOK s.align f ≠ true) :
    exec .geomMem s = .next (s.finish .invalidArgument) := by
  cases hf : shapeFormat s.cfg.fmt s.cfg.w s.cfg.h with
  | none => simp [exec, execGeomMem, hf, raise_def]
  | some f => simp [exec, execGeomMem, hf, h f hf, raise_def]

/-- Settles O25: the memory geometry within MAX_DIM and MAX_ALIGN is bounded, so the registers hold it; its size starts
from the stride that was written. -/
theorem geomMemWritesMemoryGeometry : Obligations.GeomMemWritesMemoryGeometry := by
  refine ⟨rfl, fun s => ⟨fun f hshape hfit => ?_, fun hbad => exec_geomMem_of_refused fun f hf hal =>
    hbad f (shapeFormat_eq_some_iff_shapeHolds.mp hf) (alignsOK_iff.mp hal)⟩⟩
  have hf := shapeFormat_eq_some_iff_shapeHolds.mpr hshape
  have hal := alignsOK_iff.mpr hfit
  obtain ⟨hplanes, hrest⟩ := geomRegs_holdsGeometry (layout := memLayout s.align f s.cfg.w.toNat s.cfg.h.toNat)
    fun p hp => memLayout_bounded (shapeFormat_eq_some.mp hf).2 (List.all_eq_true.mp hal p hp)
  refine ⟨geomRegs f (memLayout s.align f s.cfg.w.toNat s.cfg.h.toNat), exec_geomMem_of_checks hf hal,
    fun p hp => ?_, hrest⟩
  obtain ⟨hrow, hlines, hstride, hsize⟩ := hplanes p hp
  exact ⟨hrow, hlines, hstride, by rw [hstride]; exact hsize⟩

section Alignments

variable {f : Format} {al al' : AlignRegs}

theorem alignsOK_congr (h : ∀ p ∈ f.planes, al.plane p = al'.plane p) : alignsOK al f = alignsOK al' f := by
  rw [Bool.eq_iff_iff, alignsOK, alignsOK, List.all_eq_true, List.all_eq_true]
  exact forall₂_congr fun p hp => by rw [h p hp]

/-- GEOM_MEM reads the alignments of the format's planes alone (40_geometry.md R102). -/
theorem geomRegs_memLayout_congr (h : ∀ p ∈ f.planes, al.plane p = al'.plane p) (w ht : Nat) :
    geomRegs f (memLayout al f w ht) = geomRegs f (memLayout al' f w ht) :=
  geomRegs_congr fun p hp => by rw [memLayout, memLayout, h p hp]

theorem plane_set_p2 (al : AlignRegs) (x : PlaneAlign) {p : Plane} (hp : p ≠ .p2) :
    ({ al with p2 := x } : AlignRegs).plane p = al.plane p := by
  cases p with
  | p0 | p1 => rfl
  | p2 => exact absurd rfl hp

end Alignments

/-- With every alignment that it reads 0, GEOM_MEM does what GEOM_FILE does (40_geometry.md R112). -/
theorem exec_geomMem_of_zero {s : State}
    (h : ∀ f, registry s.cfg.fmt = some f → ∀ p ∈ f.planes, s.align.plane p = PlaneAlign.zero) :
    exec .geomMem s = exec .geomFile s := by
  cases hf : shapeFormat s.cfg.fmt s.cfg.w s.cfg.h with
  | none => rw [exec_geomMem_of_refused (by simp [hf]), exec_geomFile_of_bad_shape hf]
  | some f =>
    have hzero : ∀ p ∈ f.planes, s.align.plane p = zeroAlign.plane p := fun p hp => by
      rw [h f (shapeFormat_eq_some.mp hf).1 p hp, zeroAlign_plane]
    rw [exec_geomMem_of_checks hf ((alignsOK_congr hzero).trans (alignsOK_zeroAlign f)), exec_geomFile_of_shape hf,
      geomRegs_memLayout_congr hzero, memLayout_zeroAlign]

/-- New values in the alignment registers that GEOM_MEM does not read stay there and change nothing else
(40_geometry.md R102). -/
theorem exec_geomMem_withAlign {s t : State} {f : Format} {al : AlignRegs} (hr : registry s.cfg.fmt = some f)
    (hal : ∀ p ∈ f.planes, al.plane p = s.align.plane p) (h : exec .geomMem s = .next t) :
    exec .geomMem { s with align := al } = .next { t with align := al } := by
  by_cases hok : shapeFormat s.cfg.fmt s.cfg.w s.cfg.h = some f ∧ alignsOK s.align f = true
  · obtain ⟨hf, hfit⟩ := hok
    obtain rfl := Host.Outcome.next.inj (h.symm.trans (exec_geomMem_of_checks hf hfit))
    rw [exec_geomMem_of_checks (s := { s with align := al }) hf ((alignsOK_congr hal).trans hfit)]
    dsimp only
    rw [geomRegs_memLayout_congr hal]
    rfl
  · have hrefused : ∀ g, shapeFormat s.cfg.fmt s.cfg.w s.cfg.h = some g → alignsOK s.align g ≠ true := by
      intro g hg hfit
      obtain rfl := Option.some.inj ((shapeFormat_eq_some.mp hg).1.symm.trans hr)
      exact hok ⟨hg, hfit⟩
    obtain rfl := Host.Outcome.next.inj (h.symm.trans (exec_geomMem_of_refused hrefused))
    refine exec_geomMem_of_refused (s := { s with align := al }) fun g hg => ?_
    obtain rfl := Option.some.inj ((shapeFormat_eq_some.mp hg).1.symm.trans hr)
    rw [alignsOK_congr hal]
    exact hrefused g hg

theorem exec_geomMem_align {s t : State} (h : exec .geomMem s = .next t) : t.align = s.align := by
  obtain ⟨_, _, halign, _⟩ := (exec_effect h).hostRegs
  exact halign

/-- Settles O26: GEOM_MEM reads the alignments of the format's planes alone, and a 0 there counts as 1. -/
theorem geomMemZeroAlignmentsAreFileGeometry : Obligations.GeomMemZeroAlignmentsAreFileGeometry := by
  refine fun s => ⟨fun hzero => exec_geomMem_of_zero fun f hf p hp => ?_, fun f x t hr hp2 h => ?_⟩
  · rcases hzero p with hal | ⟨g, hg, hlacks⟩
    · exact hal
    · obtain rfl := Option.some.inj (hf.symm.trans hg)
      exact absurd hp hlacks
  · rw [exec_geomMem_align h]
    exact exec_geomMem_withAlign hr (fun p hp => plane_set_p2 _ x fun hne => hp2 (hne ▸ hp)) h

/-! ### The bounds -/

/-- Settles O27: `roundup x a` lies from `x` to `x + a - 1`, for the stride, the aligned height and the size in turn. -/
theorem geometryResultsAreBounded : Obligations.GeometryResultsAreBounded := by
  intro f al w h p hp _ hw _ hh hal
  have hbounded : ∀ q ∈ f.planes, LayoutBounded (memLayout al f w h q) := by
    intro q hq
    obtain ⟨hstride, hlines, hsize⟩ := hal q hq
    exact alignedLayout_bounded (rowBytes_le f hw q) (planeLines_le hh q) (effectiveAlign_bounds hstride)
      (effectiveAlign_bounds hlines) (effectiveAlign_bounds hsize)
  have hlines : roundup (planeLines h p) (max 1 (al.plane p).lines.toNat) < 2 ^ 17 := by
    obtain ⟨_, hfit, _⟩ := hal p hp
    have hround := roundup_lt (x := planeLines h p) (a := max 1 (al.plane p).lines.toNat) (by omega)
    have hmax := planeLines_le hh p
    omega
  obtain ⟨hrow, harea, hrowMax, hstride, hsize, _⟩ := hbounded p hp
  exact ⟨hrow, harea, rfl, rfl, rfl, hrowMax, hstride, hlines, hsize, frameSize_lt hbounded⟩

/-! ### FCOUNT -/

section Fcount

variable {s : State} {f : Format}

theorem exec_fcount_of_bad_shape (hf : shapeFormat s.cfg.fmt s.cfg.w s.cfg.h = none) :
    exec .fcount s = .next (s.finish .invalidArgument) := by
  simp [exec, execFcount, hf, raise_def]

theorem exec_fcount_of_bad_marker (hf : shapeFormat s.cfg.fmt s.cfg.w s.cfg.h = some f)
    (hm : markerFormatOK s.markerEn s.cfg.fmt ≠ true) : exec .fcount s = .next (s.finish .invalidArgument) := by
  simp [exec, execFcount, hf, hm, raise_def]

theorem extentOf_eq_frameExtent (s : State) (f : Format) :
    s.extentOf f = frameExtent s.markerEn f s.cfg.w.toNat s.cfg.h.toNat := rfl

theorem extentOf_lt (hf : shapeFormat s.cfg.fmt s.cfg.w s.cfg.h = some f) : s.extentOf f < 2 ^ 64 := by
  have hsize := frameSize_lt (f := f) fun p _ => fileLayout_bounded (shapeFormat_eq_some.mp hf).2 p
  have hmarker : (if s.markerEn = true then Config.markerLen else 0) ≤ 6 := by
    split <;> decide
  rw [extentOf_eq_frameExtent, frameExtent]
  omega

/-- FCOUNT after its checks of the configuration: the stream beyond the header is a whole number of extents, or it is
not (40_geometry.md R120). -/
theorem exec_fcount_of_checks (hf : shapeFormat s.cfg.fmt s.cfg.w s.cfg.h = some f)
    (hm : markerFormatOK s.markerEn s.cfg.fmt = true) :
    exec .fcount s =
      if s.fc.hdr.toNat ≤ s.fc.len.toNat ∧ s.extentOf f ∣ s.fc.len.toNat - s.fc.hdr.toNat then
        .next ((s.withFrameCount (BitVec.ofNat 64 (s.extentOf f))
          (BitVec.ofNat 64 ((s.fc.len.toNat - s.fc.hdr.toNat) / s.extentOf f))).finish .ok)
      else .next (s.finish .protocol) := by
  rw [extentOf_eq_frameExtent]
  simp only [exec, execFcount, hf, hm, if_true, raise_def, complete_def, Nat.dvd_iff_mod_eq_zero]
  by_cases hlen : s.fc.len.toNat < s.fc.hdr.toNat
  · rw [if_pos hlen, if_neg fun h => absurd h.1 (Nat.not_le.mpr hlen)]
  · simp only [hlen, if_false, Nat.not_lt.mp hlen, true_and, ne_eq, ite_not]

end Fcount

/-- Settles O28: `exec_fcount_of_checks`, with an extent and a quotient that fit their registers. -/
theorem fcountCountsWholeExtents : Obligations.FcountCountsWholeExtents := by
  refine ⟨rfl, fun s => ⟨fun hbad => exec_fcount_of_bad_shape (shapeFormat_eq_none_iff.mpr hbad), fun f hshape => ?_⟩⟩
  have hf := shapeFormat_eq_some_iff_shapeHolds.mpr hshape
  refine ⟨fun hmarker h1 h5 => exec_fcount_of_bad_marker hf fun hm => ?_, fun hm => ?_⟩
  · exact (markerFormatOK_iff.mp hm hmarker).elim h1 h5
  have hexec := exec_fcount_of_checks hf (markerFormatOK_iff.mpr hm)
  refine ⟨fun hlen => ?_, fun _ hdvd => ?_, fun hlen hdvd => ?_⟩
  · rw [hexec, if_neg fun h => absurd h.1 (by omega)]; rfl
  · rw [hexec, if_neg fun h => hdvd h.2]; rfl
  · rw [if_pos ⟨hlen, hdvd⟩] at hexec
    have hquotient : (s.fc.len.toNat - s.fc.hdr.toNat) / s.extentOf f < 2 ^ 64 :=
      Nat.lt_of_le_of_lt ((Nat.div_le_self _ _).trans (Nat.sub_le _ _)) s.fc.len.isLt
    refine ⟨_, _, hexec, ?_, ?_⟩
    · rw [BitVec.toNat_ofNat, Nat.mod_eq_of_lt (extentOf_lt hf)]
    · rw [BitVec.toNat_ofNat, Nat.mod_eq_of_lt hquotient, Nat.div_mul_cancel hdvd]

/-! ### The registry -/

/-- The registry of 40_geometry.md R100, row by row. -/
def formatRows : List (Nat × Format) :=
  [(1, .unpacked .planar .k8 .uFirst), (2, .unpacked .planar .k8 .vFirst), (3, .unpacked .semiPlanar .k8 .uFirst),
    (4, .unpacked .semiPlanar .k8 .vFirst), (5, .unpacked .planar .le16 .uFirst), (6, .unpacked .planar .le16 .vFirst),
    (7, .unpacked .semiPlanar .le16 .uFirst), (8, .unpacked .semiPlanar .le16 .vFirst),
    (9, .unpacked .planar .be16 .uFirst), (10, .unpacked .planar .be16 .vFirst),
    (11, .unpacked .semiPlanar .be16 .uFirst), (12, .unpacked .semiPlanar .be16 .vFirst), (13, .packed .uFirst),
    (14, .packed .vFirst)]

theorem mem_formatRows_of_registry {code : Word} {f : Format} (h : registry code = some f) :
    (code.toNat, f) ∈ formatRows := by
  unfold registry at h
  split at h
  case h_15 => cases h
  all_goals
    next hcode =>
    cases h
    rw [hcode]
    decide

theorem registry_eq_none_iff {code : Word} : registry code = none ↔ code.toNat = 0 ∨ 14 < code.toNat := by
  unfold registry
  split
  case h_15 =>
    simp only [imp_false, true_iff] at *
    omega
  all_goals
    simp only [reduceCtorEq, false_iff]
    omega

theorem formatRows_bitDepth : ∀ row ∈ formatRows, row.2.bitDepth = if row.1 ≤ 4 then 8 else 10 := by decide

theorem formatRows_order : ∀ row ∈ formatRows,
    (row.1 ∈ [1, 3, 5, 7, 9, 11, 13] → row.2.order = .uFirst) ∧
      (row.1 ∈ [2, 4, 6, 8, 10, 12, 14] → row.2.order = .vFirst) := by decide

theorem formatRows_kind : ∀ row ∈ formatRows,
    (row.1 ∈ [1, 2, 3, 4] → ∃ l o, row.2 = .unpacked l .k8 o) ∧
      (row.1 ∈ [5, 6, 7, 8] → ∃ l o, row.2 = .unpacked l .le16 o) ∧
      (row.1 ∈ [9, 10, 11, 12] → ∃ l o, row.2 = .unpacked l .be16 o) := by
  simp [formatRows]

/-- Which codes are planar, semi-planar and bit-packed, with the element size of the unpacked ones. -/
theorem formatRows_layout : ∀ row ∈ formatRows,
    (row.1 ∈ [1, 2, 5, 6, 9, 10] → ∃ k o, row.2 = .unpacked .planar k o ∧ k.size = if row.1 ≤ 4 then 1 else 2) ∧
      (row.1 ∈ [3, 4, 7, 8, 11, 12] →
        ∃ k o, row.2 = .unpacked .semiPlanar k o ∧ k.size = if row.1 ≤ 4 then 1 else 2) ∧
      (row.1 ∈ [13, 14] → ∃ o, row.2 = .packed o) := by
  simp [formatRows, Kind.size]

/-- Settles O22: each column of the registry over its rows, and the row widths by layout. -/
theorem registeredFormatsHaveTheirGeometry : Obligations.RegisteredFormatsHaveTheirGeometry := by
  refine ⟨fun _ => registry_eq_none_iff, fun n f w h hn hr => ?_⟩
  have hrow : (n, f) ∈ formatRows := by
    have hmem := mem_formatRows_of_registry hr
    rwa [BitVec.toNat_ofNat, Nat.mod_eq_of_lt hn] at hmem
  obtain ⟨hu, hv⟩ := formatRows_order _ hrow
  obtain ⟨h8, hle, hbe⟩ := formatRows_kind _ hrow
  obtain ⟨hplanar, hsemi, hpacked⟩ := formatRows_layout _ hrow
  refine ⟨rfl, rfl, rfl, formatRows_bitDepth _ hrow, hu, hv, h8, hle, hbe, fun hc => ?_, fun hc => ?_, fun hc => ?_⟩
  · obtain ⟨k, o, rfl, hsize⟩ := hplanar hc
    exact hsize ▸ ⟨rfl, rfl, rfl, rfl⟩
  · obtain ⟨k, o, rfl, hsize⟩ := hsemi hc
    exact hsize ▸ ⟨rfl, rfl, rfl⟩
  · obtain ⟨o, rfl⟩ := hpacked hc
    exact ⟨rfl, rfl, rfl⟩

end Sys2Proof.Proofs
end

section
/-! The serializer (41_serializer.md): the checks of WRFRAME and the plan they lead to, the ways its run ends under the
answers of the port and the sink, and what a run of frames leaves for FCOUNT. -/

namespace Sys2Proof.Proofs

open Sys2Proof.Machine

/-! ### The checks -/

theorem windowOK_iff_windowHolds {addrW : Nat} {fr : FrameRegs} {f : Format} {w h : Nat} :
    windowOK addrW fr f w h = true ↔ WindowHolds addrW fr f w h := by
  simp only [windowOK_iff, planeWindowOK_iff, WindowHolds]

/-- What WRFRAME does with a frame of format `f` once its checks hold (41_serializer.md R130). -/
def framePlanOf (s : State) (f : Format) : FramePlan where
  marker := if s.markerEn then s.params.frameMarker.toList else []
  addrs := frameAddrs s.src f s.cfg.w.toNat s.cfg.h.toNat
  windows := frameWindows s.src f

theorem wrframePlan_of_checks {s : State} {f : Format} (h : s.FrameChecks f) :
    wrframePlan s = .ok (framePlanOf s f) := by
  obtain ⟨herr, hshape, hmarker, hfmt, hdims, hwindow⟩ := h
  have hmarkerOK : markerFormatOK s.markerEn s.cfg.fmt = true := markerFormatOK_iff.mpr hmarker
  have hdimsOK : ¬(¬(s.src.w = 0 ∧ s.src.h = 0) ∧ (s.src.w ≠ s.cfg.w ∨ s.src.h ≠ s.cfg.h)) := by tauto
  simp only [wrframePlan, framePlanOf, herr, shapeFormat_eq_some_iff_shapeHolds.mpr hshape, hmarkerOK, hfmt, hdimsOK,
    windowOK_iff_windowHolds.mpr hwindow, Bool.false_eq_true, Bool.not_true, ne_eq, not_true_eq_false, if_false]

theorem checks_of_wrframePlan {s : State} {p : FramePlan} (h : wrframePlan s = .ok p) : ∃ f, s.FrameChecks f := by
  unfold wrframePlan at h
  split at h
  · cases h
  next herr =>
  split at h
  · cases h
  next f hf =>
  iterate 4
    split at h
    · cases h
  next hmarker hfmt hdims hwindow =>
  refine ⟨f, by simpa using herr, shapeFormat_eq_some_iff_shapeHolds.mp hf, ?_, not_not.mp hfmt, by tauto, ?_⟩
  · have hmarkerOK : markerFormatOK s.markerEn s.cfg.fmt = true := by simpa using hmarker
    exact markerFormatOK_iff.mp hmarkerOK
  · exact windowOK_iff_windowHolds.mp (by simpa using hwindow)

theorem exec_wrframe_of_plan {s : State} {p : FramePlan} (h : wrframePlan s = .ok p) :
    exec .wrframe s = runFrame p s := by
  simp [exec, execWrframe, h]

theorem exec_wrframe_of_error {s : State} {e : ErrCode} (h : wrframePlan s = .error e) :
    exec .wrframe s = .next (s.finish e) := by
  simp [exec, execWrframe, h, raise_def]

/-- A completion, by its fields, with STREAM_ERR as it stood (60_exceptions.md R201). -/
theorem finish_eq {s : State} {b : Bool} (e : ErrCode) (h : s.status.streamErr = b) :
    s.finish e = { s with inFlight := none, status := { done := true, err := e, streamErr := b } } := by
  subst h
  rfl

/-- Settles O30: a frame that has no plan has an error, IO exactly where STREAM_ERR is set. -/
theorem wrframeRefusesBadFrames : Obligations.WrframeRefusesBadFrames := by
  refine fun s => ⟨fun hset => ?_, fun hclear hbad => ?_⟩
  · rw [exec_wrframe_of_error (e := .io) (by simp [wrframePlan, hset]), finish_eq _ hset]
  · cases hp : wrframePlan s with
    | ok p => exact absurd (checks_of_wrframePlan hp) (not_exists.mpr hbad)
    | error e =>
      rcases wrframePlan_error hp with ⟨_, hset⟩ | rfl
      · simp [hclear] at hset
      · rw [exec_wrframe_of_error hp, finish_eq _ hclear]

/-! ### The bytes of a frame -/

theorem framePlanOf_bytes (s : State) (f : Format) : (framePlanOf s f).bytes s.mem = s.frameOnStream f := by
  simp [FramePlan.bytes, framePlanOf, State.frameOnStream, State.markerEn, frameAddrs, planeAddrs, rowAddrs, rowAddr,
    List.map_flatMap, Function.comp_def]

/-- A marker has six bytes (41_serializer.md R132). -/
theorem framePlanOf_marker_length (s : State) (f : Format) :
    (framePlanOf s f).marker.length = if s.ctrl.getLsbD 0 then 6 else 0 := by
  change (if s.ctrl.getLsbD 0 then s.params.frameMarker.toList else []).length = _
  split
  · exact Vector.length_toList
  · rfl

/-- A frame takes one extent of the stream (40_geometry.md R120). -/
theorem frameOnStream_length (s : State) (f : Format) : (s.frameOnStream f).length = s.extentOf f := by
  have hplanes : (framePlanOf s f).addrs.length =
      (f.planes.map fun p => rowBytes f s.cfg.w.toNat p * planeLines s.cfg.h.toNat p).sum := by
    simp [framePlanOf, frameAddrs, planeAddrs, rowAddrs, List.length_flatMap, Nat.mul_comm]
  rw [← framePlanOf_bytes, FramePlan.bytes, List.length_append, List.length_map, framePlanOf_marker_length, hplanes,
    State.extentOf, Nat.add_comm]

/-! ### The answers of the port and the sink -/

section Answers

variable {p : FramePlan} {s : State}

theorem readable_of_served (h : ∀ a ∈ p.addrs, portAnswer s.port a = .data) :
    p.readable s.port = (p.bytes s.mem).length := by
  have hall : p.addrs.takeWhile (fun a => portAnswer s.port a == .data) = p.addrs :=
    List.takeWhile_eq_self_iff.mpr fun a ha => by simp [h a ha]
  simp [FramePlan.readable, FramePlan.bytes, hall]

/-- No byte can be had past the first failing read (41_serializer.md R136). -/
theorem readable_le_of_error {j a : Nat} (hj : p.addrs[j]? = some a) (ha : portAnswer s.port a = .error) :
    p.readable s.port ≤ p.marker.length + j := by
  obtain ⟨hlt, rfl⟩ := List.getElem?_eq_some_iff.mp hj
  have hle : (p.addrs.takeWhile fun a => portAnswer s.port a == .data).length ≤ j := by
    by_contra hgt
    have hdata := List.mem_takeWhile_imp (List.getElem_mem (Nat.not_le.mp hgt))
    rw [(List.takeWhile_prefix _).getElem, ha] at hdata
    cases hdata
  simpa [FramePlan.readable] using hle

theorem acceptCount_of_accepting {sink : List SinkAnswer} (h : ∀ x ∈ sink, x = .accept) (n : Nat) :
    acceptCount sink n = n := by
  induction sink generalizing n with
  | nil => rfl
  | cons x rest ih =>
    obtain ⟨rfl, hrest⟩ := List.forall_mem_cons.mp h
    cases n with
    | zero => rfl
    | succ n => rw [acceptCount, ih hrest]

/-- The sink accepts up to the byte it refuses (41_serializer.md R134). -/
theorem acceptCount_of_refusal {sink : List SinkAnswer} {n m : Nat} (haccept : ∀ i, i < n → sink[i]? = some .accept)
    (hrefuse : sink[n]? = some .refuse) (hn : n < m) : acceptCount sink m = n := by
  induction sink generalizing n m with
  | nil => simp at hrefuse
  | cons x rest ih =>
    obtain ⟨m, rfl⟩ := Nat.exists_eq_succ_of_ne_zero (Nat.ne_zero_of_lt hn)
    cases n with
    | zero =>
      obtain rfl : x = .refuse := by simpa using hrefuse
      rfl
    | succ n =>
      obtain rfl : x = .accept := by simpa using haccept 0 (Nat.succ_pos n)
      have hrest : acceptCount rest m = n :=
        ih (fun i hi => by simpa using haccept (i + 1) (by omega)) (by simpa using hrefuse) (by omega)
      rw [acceptCount, hrest]

theorem sinkAnswer_drop {sink : List SinkAnswer} {n : Nat} {x : SinkAnswer} (h : sink[n]? = some x) :
    sinkAnswer (sink.drop n) = x := by
  obtain ⟨hlt, rfl⟩ := List.getElem?_eq_some_iff.mp h
  rw [List.drop_eq_getElem_cons hlt]
  rfl

theorem any_answer_of_served {x : PortAnswer} (h : ∀ a ∈ p.addrs, portAnswer s.port a = .data) (hx : x ≠ .data) :
    (p.addrs.any fun a => portAnswer s.port a == x) = false := by
  simpa using fun a ha => by simpa [h a ha] using hx.symm

theorem hasError_of_served (h : ∀ a ∈ p.addrs, portAnswer s.port a = .data) : p.hasError s = false :=
  any_answer_of_served h (by simp)

/-- A port and a sink that serve the whole frame leave no early end. -/
theorem earlyEnds_of_served (h : ∀ a ∈ p.addrs, portAnswer s.port a = .data) (hall : p.emittable s = p.readable s.port) :
    p.earlyEnds s = [] := by
  simp [FramePlan.earlyEnds, hasError_of_served h, FramePlan.refused, FramePlan.unanswered, hall,
    any_answer_of_served h (x := .silent)]

/-- Where the port serves the frame and the sink refuses a byte, the refusal is the only end. -/
theorem earlyEnds_of_refusal (h : ∀ a ∈ p.addrs, portAnswer s.port a = .data) (hlt : p.emittable s < p.readable s.port)
    (hrefuse : sinkAnswer (s.sink.drop (p.emittable s)) = .refuse) : p.earlyEnds s = [.sinkRefusal] := by
  simp [FramePlan.earlyEnds, hasError_of_served h, FramePlan.refused, FramePlan.unanswered, hlt, hrefuse,
    any_answer_of_served h (x := .silent)]

/-- Where every read is answered, one of them with an error, and the sink takes what can be had, BUS_ERROR is the only
end. -/
theorem earlyEnds_of_error (hanswered : ∀ a ∈ p.addrs, portAnswer s.port a ≠ .silent)
    (herror : ∃ a ∈ p.addrs, portAnswer s.port a = .error) (hall : p.emittable s = p.readable s.port) :
    p.earlyEnds s = [.busError] := by
  have hsilent : p.addrs.any (fun a => portAnswer s.port a == .silent) = false := by simpa using hanswered
  have hhas : p.hasError s = true := by simpa [FramePlan.hasError] using herror
  simp [FramePlan.earlyEnds, hhas, FramePlan.refused, FramePlan.unanswered, hall, hsilent]

end Answers

/-! ### How a frame ends -/

/-- The state that a WRFRAME leaves when it comes to the given end, with `none` for completion with OK. -/
def frameEndState (p : FramePlan) (s : State) : Option FrameEnd → State
  | none => (s.emitted (p.bytes s.mem)).finish .ok
  | some .sinkRefusal =>
    (((s.emitted ((p.bytes s.mem).take (p.emittable s))).withStreamErr true).withSink
      (s.sink.drop (p.emittable s + 1))).drew.finish .io
  | some .busError =>
    ((s.emitted ((p.bytes s.mem).take (drawnPrefix s.draws (p.emittable s)))).withStreamErr
      (s.status.streamErr || decide (0 < drawnPrefix s.draws (p.emittable s)))).drew.finish .busError
  | some .hang => s.drew

/-- A run faults on a device window or comes to the end that is drawn. -/
theorem runFrame_eq (p : FramePlan) (s : State) :
    runFrame p s =
      if hitsDevice s.params.devices p.windows then .fault .deviceWindow
      else .next (frameEndState p s (drawEarlyEnd s.draws (p.earlyEnds s))) := by
  unfold runFrame
  split
  · rfl
  · rcases drawEarlyEnd s.draws (p.earlyEnds s) with _ | _ | _ | _
    all_goals rfl

section FrameRun

variable {s : State} {f : Format}

theorem exec_wrframe_eq (hchecks : s.FrameChecks f)
    (hdevice : hitsDevice s.params.devices (frameWindows s.src f) = false) :
    exec .wrframe s =
      .next (frameEndState (framePlanOf s f) s (drawEarlyEnd s.draws ((framePlanOf s f).earlyEnds s))) := by
  have hwindows : hitsDevice s.params.devices (framePlanOf s f).windows = false := hdevice
  rw [exec_wrframe_of_plan (wrframePlan_of_checks hchecks), runFrame_eq, hwindows]
  rfl

theorem readable_framePlanOf (hport : s.PortServes (frameAddrs s.src f s.cfg.w.toNat s.cfg.h.toNat)) :
    (framePlanOf s f).readable s.port = (s.frameOnStream f).length := by
  rw [readable_of_served (p := framePlanOf s f) hport, framePlanOf_bytes]

/-- A frame after its first `k` bytes have been emitted: the fields that a run writes. -/
theorem emitted_take_eq {k : Nat} (hk : k ≤ (s.frameOnStream f).length) :
    s.emitted ((s.frameOnStream f).take k) =
      { s with stream := s.stream ++ (s.frameOnStream f).take k, streamPos := posAfter s.streamPos k
               sink := s.sink.drop k } := by
  rw [State.emitted, List.length_take, Nat.min_eq_left hk]

end FrameRun

/-- Settles O29: a run that is served comes to no early end. -/
theorem wrframeAppendsTheFrame : Obligations.WrframeAppendsTheFrame := by
  intro s f hchecks hdevice hport hsink
  have hall : (framePlanOf s f).emittable s = (framePlanOf s f).readable s.port := by
    rw [FramePlan.emittable, readable_framePlanOf hport, hsink]
  have hends : (framePlanOf s f).earlyEnds s = [] := earlyEnds_of_served hport hall
  refine ⟨posAfter s.streamPos (s.frameOnStream f).length, ?_, posAfter_toNat⟩
  have ⟨hclear, _⟩ := hchecks
  rw [exec_wrframe_eq hchecks hdevice, hends, drawEarlyEnd_nil, frameEndState, framePlanOf_bytes,
    finish_eq (s := s.emitted _) _ hclear]
  rfl

/-- Settles O31: the refusal of byte n is the one early end, with n bytes accepted. -/
theorem sinkRefusalTruncatesTheFrame : Obligations.SinkRefusalTruncatesTheFrame := by
  intro s f n hchecks hdevice hport hn haccept hrefuse
  have hreadable := readable_framePlanOf hport
  have hemit : (framePlanOf s f).emittable s = n := by
    rw [FramePlan.emittable, hreadable, acceptCount_of_refusal haccept hrefuse hn]
  have hends : (framePlanOf s f).earlyEnds s = [.sinkRefusal] :=
    earlyEnds_of_refusal hport (by rw [hemit, hreadable]; exact hn) (by rw [hemit]; exact sinkAnswer_drop hrefuse)
  refine ⟨posAfter s.streamPos n, ?_, posAfter_toNat⟩
  rw [exec_wrframe_eq hchecks hdevice, hends, drawEarlyEnd_single, frameEndState, framePlanOf_bytes, hemit,
    emitted_take_eq hn.le]
  rfl

/-- Settles O32: BUS_ERROR is the one early end, and the drawn length is within the bytes that can be had. -/
theorem busErrorLeavesAPrefix : Obligations.BusErrorLeavesAPrefix := by
  rintro s f marker hchecks hdevice rfl hanswered herror hsink
  have hall : (framePlanOf s f).emittable s = (framePlanOf s f).readable s.port := acceptCount_of_accepting hsink _
  have ⟨hclear, _⟩ := hchecks
  have hk := drawnPrefix_le s.draws ((framePlanOf s f).emittable s)
  have hfits := hk.trans ((framePlanOf s f).emittable_le s)
  rw [framePlanOf_bytes] at hfits
  refine ⟨drawnPrefix s.draws ((framePlanOf s f).emittable s), posAfter s.streamPos _, fun j a hj ha => ?_, ?_,
    posAfter_toNat⟩
  · rw [← framePlanOf_marker_length s f]
    exact (hk.trans hall.le).trans (readable_le_of_error hj ha)
  · have hends : (framePlanOf s f).earlyEnds s = [.busError] := earlyEnds_of_error hanswered herror hall
    rw [exec_wrframe_eq hchecks hdevice, hends, drawEarlyEnd_single, frameEndState, framePlanOf_bytes,
      emitted_take_eq hfits, hclear]
    rfl

/-! ### What WRFRAME does not touch -/

theorem frameEndState_withDst (p : FramePlan) (s : State) (d : FrameRegs) (e : Option FrameEnd) :
    frameEndState p { s with dst := d } e = { frameEndState p s e with dst := d } := by
  rcases e with _ | _ | _ | _
  all_goals rfl

theorem runFrame_withDst {p : FramePlan} {s t : State} (d : FrameRegs) (h : runFrame p s = .next t) :
    runFrame p { s with dst := d } = .next { t with dst := d } := by
  rw [runFrame_eq] at h ⊢
  split at h
  · cases h
  next hdevice =>
  cases h
  rw [if_neg hdevice, frameEndState_withDst]
  rfl

/-- Settles O38: neither the checks nor an end of the run look at DST. -/
theorem wrframeIgnoresDestination : Obligations.WrframeIgnoresDestination := by
  intro s t d h
  obtain ⟨_, _, _, _, hdst⟩ := (exec_effect h).hostRegs
  refine ⟨?_, hdst⟩
  cases hp : wrframePlan s with
  | error e =>
    obtain rfl := Host.Outcome.next.inj ((exec_wrframe_of_error hp).symm.trans h)
    exact exec_wrframe_of_error (s := { s with dst := d }) hp
  | ok p =>
    rw [exec_wrframe_of_plan hp] at h
    rw [exec_wrframe_of_plan (s := { s with dst := d }) hp]
    exact runFrame_withDst d h

/-! ### STRCLR -/

/-- Settles O34: STRCLR has no checks, and each of its updates writes its fields. -/
theorem strclrClearsTheStreamError : Obligations.StrclrClearsTheStreamError :=
  ⟨rfl, fun _ => rfl⟩

/-! ### A run of frames -/

/-- A WRFRAME in flight that completes with OK has appended its whole frame (41_serializer.md R130). -/
theorem frame_of_wrframe_ok {s t : State} (h : exec .wrframe s = .next t) (hbusy : s.inFlight ≠ none)
    (hidle : t.inFlight = none) (hok : t.status.err = .ok) :
    ∃ f, s.FrameChecks f ∧ t = (s.emitted (s.frameOnStream f)).finish .ok := by
  cases hp : wrframePlan s with
  | error e =>
    obtain rfl := Host.Outcome.next.inj ((exec_wrframe_of_error hp).symm.trans h)
    obtain rfl : e = .ok := hok
    simpa using wrframePlan_error hp
  | ok p =>
    obtain ⟨f, hchecks⟩ := checks_of_wrframePlan hp
    rw [exec_wrframe_of_plan (wrframePlan_of_checks hchecks)] at h
    refine ⟨f, hchecks, ?_⟩
    rcases runFrame_cases h with ⟨_, rfl⟩ | ⟨_, rfl⟩ | ⟨_, _, _, rfl⟩ | ⟨_, rfl⟩
    · rw [framePlanOf_bytes]
    · cases hok
    · cases hok
    · exact absurd hidle hbusy

theorem extentOf_congr {s t : State} (hcfg : t.cfg = s.cfg) (hctrl : t.ctrl = s.ctrl) (f : Format) :
    t.extentOf f = s.extentOf f := by
  simp only [State.extentOf, hcfg, hctrl]

theorem frameChecks_format {s : State} {f g : Format} (h : s.FrameChecks g) (hf : registry s.cfg.fmt = some f) :
    g = f := by
  obtain ⟨_, ⟨hg, _⟩, _⟩ := h
  exact Option.some.inj (hg.symm.trans hf)

/-- A format whose shape is accepted has at least one byte in plane 0, so an extent is not empty. -/
theorem extentOf_pos {s : State} {f : Format} (h : ShapeHolds f s.cfg.fmt s.cfg.w s.cfg.h) : 0 < s.extentOf f := by
  obtain ⟨_, ⟨hw, _⟩, ⟨hh, _⟩, hpacked⟩ := h
  have hrow : 0 < rowBytes f s.cfg.w.toNat .p0 := by
    cases f with
    | unpacked l k o =>
      have hsize : 0 < k.size := by cases k <;> decide
      cases l <;> exact Nat.mul_pos hw hsize
    | packed o =>
      have hmultiple := hpacked o rfl
      simp only [rowBytes]
      omega
  have hplane : 0 < rowBytes f s.cfg.w.toNat .p0 * planeLines s.cfg.h.toNat .p0 := Nat.mul_pos hrow hh
  rcases planes_cases f with hf | hf
  all_goals
    simp only [State.extentOf, hf, List.map_cons, List.sum_cons]
    omega

/-- The states `run n` are those between the frames of a run of `k` issued WRFRAMEs that end with OK. -/
def FramesSucceed (run : Nat → State) (k : Nat) : Prop :=
  ∀ n, n < k → exec .wrframe ((run n).issue (encode .wrframe)) = .next (run (n + 1)) ∧
    (run (n + 1)).inFlight = none ∧ (run (n + 1)).status.err = .ok

/-- One frame of a run: its checks held before the issue, and it grew the stream by its bytes. -/
theorem FramesSucceed.frame {run : Nat → State} {k n : Nat} (h : FramesSucceed run k) (hn : n < k) :
    ∃ f, (run n).FrameChecks f ∧ (run (n + 1)).cfg = (run n).cfg ∧ (run (n + 1)).ctrl = (run n).ctrl ∧
      (run (n + 1)).stream = (run n).stream ++ (run n).frameOnStream f := by
  obtain ⟨hexec, hidle, hok⟩ := h n hn
  obtain ⟨f, hchecks, hnext⟩ := frame_of_wrframe_ok hexec (by simp) hidle hok
  exact ⟨f, hchecks, by rw [hnext]; rfl, by rw [hnext]; rfl, by rw [hnext]; rfl⟩

/-- A run keeps the configuration and grows the stream by an extent a frame. -/
theorem FramesSucceed.stream_length {run : Nat → State} {k : Nat} {f : Format} (h : FramesSucceed run k)
    (hf : registry (run 0).cfg.fmt = some f) :
    (run k).cfg = (run 0).cfg ∧ (run k).ctrl = (run 0).ctrl ∧
      (run k).stream.length = (run 0).stream.length + k * (run 0).extentOf f := by
  induction k with
  | zero => simp
  | succ k ih =>
    obtain ⟨hcfg, hctrl, hlength⟩ := ih fun n hn => h n (Nat.lt_succ_of_lt hn)
    obtain ⟨g, hchecks, hcfg', hctrl', hstream⟩ := h.frame (Nat.lt_succ_self k)
    obtain rfl := frameChecks_format hchecks (hcfg ▸ hf)
    refine ⟨hcfg'.trans hcfg, hctrl'.trans hctrl, ?_⟩
    rw [hstream, List.length_append, frameOnStream_length, extentOf_congr hcfg hctrl, hlength, Nat.succ_mul,
      Nat.add_assoc]

/-- FCOUNT of `k` extents after a header counts `k` frames (40_geometry.md R120). -/
theorem exec_fcount_of_extents {s : State} {f : Format} {k : Nat} (hshape : ShapeHolds f s.cfg.fmt s.cfg.w s.cfg.h)
    (hmarker : s.ctrl.getLsbD 0 = true → s.cfg.fmt = 1 ∨ s.cfg.fmt = 5)
    (hlen : s.fc.len.toNat = s.fc.hdr.toNat + k * s.extentOf f) :
    ∃ t, exec .fcount s = .next t ∧ t.status.err = .ok ∧ t.fc.extent.toNat = s.extentOf f ∧ t.fc.count.toNat = k := by
  have hbody : s.fc.len.toNat - s.fc.hdr.toNat = k * s.extentOf f := by omega
  obtain ⟨_, hcases⟩ := fcountCountsWholeExtents.2 s
  obtain ⟨_, hcounts⟩ := hcases f hshape
  obtain ⟨_, _, hcount⟩ := hcounts hmarker
  obtain ⟨e, n, hexec, he, hn⟩ := hcount (by omega) (hbody ▸ Nat.dvd_mul_left _ _)
  exact ⟨_, hexec, rfl, he, Nat.eq_of_mul_eq_mul_right (extentOf_pos hshape) (hn.trans hbody)⟩

/-- Settles O33: the growth by induction on the frames; FCOUNT finds the configuration that the first frame's checks
passed. -/
theorem successfulFramesMatchFrameCount : Obligations.SuccessfulFramesMatchFrameCount := by
  intro k hdr run f hf hrun
  have hframes : FramesSucceed run k := hrun
  obtain ⟨hcfg, hctrl, hlength⟩ := hframes.stream_length hf
  refine ⟨hlength, fun hk hfits => ?_⟩
  obtain ⟨g, hchecks, _⟩ := hframes.frame hk
  obtain rfl := frameChecks_format hchecks hf
  obtain ⟨_, hshape, hmarker, _⟩ := hchecks
  rw [← extentOf_congr hcfg hctrl] at hfits ⊢
  rw [← hcfg] at hshape hmarker
  rw [← hctrl] at hmarker
  refine exec_fcount_of_extents (s := { run k with fc := _ }) hshape hmarker ?_
  simp only [BitVec.toNat_ofNat]
  rw [Nat.mod_eq_of_lt hfits, Nat.mod_eq_of_lt (by omega)]
  rfl

end Sys2Proof.Proofs
end

section
/-! The block functions of the packed codec (42_codec.md R150 to R154) as numbers, and the laws that R158 infers. -/

namespace Sys2Proof.Proofs

open Sys2Proof.Machine

/-! ### A packed block, its bytes and its components -/

/-- The fields of a packed block, the highest first (42_codec.md R150): each bit of the OR comes from the one field that
reaches it. -/
theorem packBlock_eq_append (q : Quad) : packBlock q = q.c3 ++ q.c2 ++ q.c1 ++ q.c0 := by
  ext i hi
  simp only [packBlock, BitVec.getElem_or, BitVec.getElem_shiftLeft, BitVec.getElem_setWidth]
  grind

theorem blockOfBytes_eq_append (b0 b1 b2 b3 b4 : Byte) :
    blockOfBytes b0 b1 b2 b3 b4 = b4 ++ b3 ++ b2 ++ b1 ++ b0 := by
  ext i hi
  simp only [blockOfBytes, BitVec.getElem_or, BitVec.getElem_shiftLeft, BitVec.getElem_setWidth]
  grind

/-- A packed block as a number: each component at the place of its lowest bit. -/
theorem packBlock_toNat (q : Quad) :
    (packBlock q).toNat = q.c0.toNat + q.c1.toNat * 2 ^ 10 + q.c2.toNat * 2 ^ 20 + q.c3.toNat * 2 ^ 30 := by
  simp only [packBlock_eq_append, toNat_append_eq_add]
  ring

theorem blockOfBytes_toNat (b0 b1 b2 b3 b4 : Byte) :
    (blockOfBytes b0 b1 b2 b3 b4).toNat =
      b0.toNat + b1.toNat * 2 ^ 8 + b2.toNat * 2 ^ 16 + b3.toNat * 2 ^ 24 + b4.toNat * 2 ^ 32 := by
  simp only [blockOfBytes_eq_append, toNat_append_eq_add]
  ring

theorem blockByte_toNat (p : PackedBlock) (k : Nat) : (blockByte p k).toNat = p.toNat / 2 ^ (8 * k) % 256 := by
  rw [blockByte, BitVec.extractLsb'_toNat, Nat.shiftRight_eq_div_pow]

theorem unpackBlock_at (p : PackedBlock) {i : Nat} (hi : i < 4) : (unpackBlock p).at i = p.extractLsb' (10 * i) 10 := by
  match i, hi with
  | 0, _ | 1, _ | 2, _ | 3, _ => rfl

theorem unpackBlock_at_toNat (p : PackedBlock) {i : Nat} (hi : i < 4) :
    ((unpackBlock p).at i).toNat = p.toNat / 2 ^ (10 * i) % 1024 := by
  rw [unpackBlock_at p hi, BitVec.extractLsb'_toNat, Nat.shiftRight_eq_div_pow]

/-- The components are the digits of the block in base 1024, so each is found again in its place. -/
theorem unpackBlock_packBlock (q : Quad) : unpackBlock (packBlock q) = q := by
  have hnum := packBlock_toNat q
  have h0 := q.c0.isLt
  have h1 := q.c1.isLt
  have h2 := q.c2.isLt
  rw [unpackBlock, Quad.mk.injEq]
  refine ⟨extractLsb'_of_div_mod ?_, extractLsb'_of_div_mod ?_, extractLsb'_of_div_mod ?_, extractLsb'_of_div_mod ?_⟩
  all_goals
    omega

/-- Bit i of a packed block lies in component i / 10. -/
theorem packBlock_getLsbD (q : Quad) {i : Nat} (hi : i < 40) :
    (packBlock q).getLsbD i = (q.at (i / 10)).getLsbD (i % 10) := by
  have hmod : i % 10 < 10 := Nat.mod_lt i (by decide)
  conv_rhs => rw [← unpackBlock_packBlock q, unpackBlock_at _ (by omega), BitVec.getLsbD_extractLsb']
  simp [hmod, Nat.div_add_mod]

theorem blockBytes_blockOfBytes (b0 b1 b2 b3 b4 : Byte) :
    blockBytes (blockOfBytes b0 b1 b2 b3 b4) = [b0, b1, b2, b3, b4] := by
  have hnum := blockOfBytes_toNat b0 b1 b2 b3 b4
  simp only [blockBytes, List.cons.injEq, and_true]
  refine ⟨extractLsb'_of_div_mod ?_, extractLsb'_of_div_mod ?_, extractLsb'_of_div_mod ?_, extractLsb'_of_div_mod ?_,
    extractLsb'_of_div_mod ?_⟩
  all_goals omega

theorem blockOfBytes_blockByte (p : PackedBlock) :
    blockOfBytes (blockByte p 0) (blockByte p 1) (blockByte p 2) (blockByte p 3) (blockByte p 4) = p := by
  apply BitVec.eq_of_toNat_eq
  simp only [blockOfBytes_toNat, blockByte_toNat]
  omega

theorem packBlock_unpackBlock (p : PackedBlock) : packBlock (unpackBlock p) = p := by
  apply BitVec.eq_of_toNat_eq
  simp only [packBlock_toNat, unpackBlock, BitVec.extractLsb'_toNat, Nat.shiftRight_eq_div_pow]
  omega

theorem blockBytes_getElem? (p : PackedBlock) {k : Nat} (hk : k < 5) : (blockBytes p)[k]? = some (blockByte p k) := by
  match k, hk with
  | 0, _ | 1, _ | 2, _ | 3, _ | 4, _ => rfl

/-- Settles O40: a block and its bytes are appended fields, so numbers in base 1024 and base 256. -/
theorem packedBlockLayout : Obligations.PackedBlockLayout :=
  ⟨fun q => ⟨packBlock_toNat q, fun _ hi => packBlock_getLsbD q hi⟩,
    fun p k hk => ⟨blockBytes_getElem? p hk, blockByte_toNat p k⟩, blockOfBytes_toNat,
    fun p _ hi => unpackBlock_at_toNat p hi⟩

/-! ### Samples -/

theorem sampleIn_k8_toNat (e0 e1 : Byte) : (sampleIn .k8 e0 e1).toNat = e0.toNat * 4 := by
  have h := e0.isLt
  rw [sampleIn, BitVec.toNat_shiftLeft, BitVec.toNat_setWidth, Nat.shiftLeft_eq]
  omega

theorem sampleIn_le16_toNat (e0 e1 : Byte) : (sampleIn .le16 e0 e1).toNat = (e0.toNat + 256 * e1.toNat) % 1024 := by
  rw [sampleIn, BitVec.toNat_setWidth, toNat_append_eq_add]
  omega

theorem sampleIn_be16_toNat (e0 e1 : Byte) : (sampleIn .be16 e0 e1).toNat = (256 * e0.toNat + e1.toNat) % 1024 := by
  rw [sampleIn, BitVec.toNat_setWidth, toNat_append_eq_add]
  omega

theorem sampleLow_toNat (c : Sample) : (c.setWidth 8).toNat = c.toNat % 256 := BitVec.toNat_setWidth ..

theorem sampleHigh_toNat (c : Sample) : (sampleHigh c).toNat = c.toNat / 256 := by
  have h := c.isLt
  rw [sampleHigh, BitVec.toNat_setWidth, BitVec.extractLsb'_toNat, Nat.shiftRight_eq_div_pow]
  omega

/-- Both byte orders hold c[7:0] and c[9:8] (42_codec.md R153). -/
theorem sampleOut16_toNat (c : Sample) :
    (sampleOut16 c 0).1.toNat = c.toNat % 256 ∧ (sampleOut16 c 0).2.toNat = c.toNat / 256 ∧
      (sampleOut16 c 1).2.toNat = c.toNat % 256 ∧ (sampleOut16 c 1).1.toNat = c.toNat / 256 :=
  ⟨sampleLow_toNat c, sampleHigh_toNat c, sampleLow_toNat c, sampleHigh_toNat c⟩

/-- SampleOut8 rounds to the nearest quarter; 256 is given by the parameter (42_codec.md R154). -/
theorem sampleOut8_toNat (u8 : Config.RoundOverflow) (c : Sample) :
    (sampleOut8 u8 c).toNat =
      if (c.toNat + 2) / 4 ≤ 255 then (c.toNat + 2) / 4 else if u8 = .wrap then 0 else 255 := by
  simp only [sampleOut8, Nat.shiftRight_eq_div_pow, Nat.reducePow]
  split
  · rw [BitVec.toNat_ofNat, Nat.mod_eq_of_lt (by omega)]
  · cases u8 <;> rfl

theorem sampleOut8_toNat_of_le {u8 : Config.RoundOverflow} {c : Sample} (h : (c.toNat + 2) / 4 ≤ 255) :
    (sampleOut8 u8 c).toNat = (c.toNat + 2) / 4 := by
  rw [sampleOut8_toNat, if_pos h]

/-- Settles O41: the bytes of an element are the digits of its value in base 256; SampleOut8 overflows at 1022 and
1023. -/
theorem sampleConversions : Obligations.SampleConversions := by
  refine ⟨fun e0 e1 => ⟨sampleIn_le16_toNat e0 e1, sampleIn_be16_toNat e0 e1, sampleIn_k8_toNat e0 e1⟩,
    sampleOut16_toNat, fun c o => ⟨sampleOut8_toNat_of_le, fun hover => ?_⟩⟩
  have hlt := c.isLt
  have hends : c.toNat = 1022 ∨ c.toNat = 1023 := by omega
  refine ⟨hends.imp BitVec.eq_of_toNat_eq BitVec.eq_of_toNat_eq, ?_, ?_⟩
  all_goals
    apply BitVec.eq_of_toNat_eq
    rw [sampleOut8_toNat, if_neg (Nat.not_le.mpr hover)]
    rfl

/-! ### The laws -/

theorem sampleIn_sampleOut16 (c : Sample) :
    sampleIn .le16 (sampleOut16 c 0).1 (sampleOut16 c 0).2 = c ∧
      sampleIn .be16 (sampleOut16 c 1).1 (sampleOut16 c 1).2 = c := by
  obtain ⟨hlow, hhigh, hlow', hhigh'⟩ := sampleOut16_toNat c
  have hlt := c.isLt
  constructor
  · apply BitVec.eq_of_toNat_eq
    rw [sampleIn_le16_toNat, hlow, hhigh]
    omega
  · apply BitVec.eq_of_toNat_eq
    rw [sampleIn_be16_toNat, hlow', hhigh']
    omega

theorem sampleOut8_sampleIn (u8 : Config.RoundOverflow) (v x : Byte) : sampleOut8 u8 (sampleIn .k8 v x) = v := by
  have hv := v.isLt
  have hin := sampleIn_k8_toNat v x
  apply BitVec.eq_of_toNat_eq
  rw [sampleOut8_toNat_of_le (by omega)]
  omega

theorem sampleIn_sampleOut8_toNat (u8 : Config.RoundOverflow) {c : Sample} (x : Byte) (h : c.toNat ≤ 1021) :
    (sampleIn .k8 (sampleOut8 u8 c) x).toNat = 4 * ((c.toNat + 2) / 4) := by
  rw [sampleIn_k8_toNat, sampleOut8_toNat_of_le (by omega), Nat.mul_comm]

/-- Settles O39: the digits of a number give the number back, and rounding is undone only where it does nothing. -/
theorem blockFunctionLaws : Obligations.BlockFunctionLaws := by
  refine ⟨fun q => ?_, fun b0 b1 b2 b3 b4 => ?_, sampleIn_sampleOut16, sampleOut8_sampleIn,
    fun o c x hc => ⟨sampleIn_sampleOut8_toNat o x hc, fun hmod heq => ?_⟩⟩
  · rw [blockOfBytes_blockByte, unpackBlock_packBlock]
  · rw [packBlock_unpackBlock, blockBytes_blockOfBytes]
  · have hnum := sampleIn_sampleOut8_toNat o x hc
    rw [heq] at hnum
    omega

end Sys2Proof.Proofs
end

section
/-! The single-block commands (42_codec.md R161 to R166): what BLK_PK and BLK_OUT0..3 hold after them, as numbers. -/

namespace Sys2Proof.Proofs

open Sys2Proof.Machine

/-! ### BLKPACK -/

theorem blkLowByte_toNat (r : Word) : (r.extractLsb' 0 8).toNat = r.toNat % 256 := by
  rw [BitVec.extractLsb'_toNat, Nat.shiftRight_zero]

theorem blkHighByte_toNat (r : Word) : (r.extractLsb' 8 8).toNat = r.toNat / 256 % 256 := by
  rw [BitVec.extractLsb'_toNat, Nat.shiftRight_eq_div_pow]

theorem blkSample_le16_toNat (r : Word) : (blkSample .le16 r).toNat = r.toNat % 1024 := by
  rw [blkSample, sampleIn_le16_toNat, blkLowByte_toNat, blkHighByte_toNat]
  omega

theorem blkSample_be16_toNat (r : Word) :
    (blkSample .be16 r).toNat = r.toNat % 4 * 256 + r.toNat / 256 % 256 := by
  rw [blkSample, sampleIn_be16_toNat, blkLowByte_toNat, blkHighByte_toNat]
  omega

theorem blkSample_k8_toNat (r : Word) : (blkSample .k8 r).toNat = r.toNat % 256 * 4 := by
  rw [blkSample, sampleIn_k8_toNat, blkLowByte_toNat]

/-- BLK_PK after a BLKPACK, with bits [63:40] 0 (10_state.md R25). -/
theorem blkPk_toNat (k : Kind) (r : BlkRegs) :
    ((packBlock (blkQuad k r)).setWidth 64).toNat =
      (blkSample k r.in0).toNat + (blkSample k r.in1).toNat * 2 ^ 10 + (blkSample k r.in2).toNat * 2 ^ 20 +
        (blkSample k r.in3).toNat * 2 ^ 30 := by
  rw [BitVec.toNat_setWidth_of_le (by decide), packBlock_toNat, blkQuad]

/-- Settles O42: a little-endian register is its element's value. -/
theorem blkpack16LeResult : Obligations.Blkpack16LeResult :=
  ⟨rfl, fun s => ⟨_, rfl, by simp only [blkPk_toNat, blkSample_le16_toNat]⟩⟩

/-- Settles O43: a big-endian element has its low byte in bits [15:8]. -/
theorem blkpack16BeResult : Obligations.Blkpack16BeResult :=
  ⟨rfl, fun s => ⟨_, rfl, by simp only [blkPk_toNat, blkSample_be16_toNat]⟩⟩

/-- Settles O44: an 8-bit element stands for 4 times its value. -/
theorem blkpack8Result : Obligations.Blkpack8Result :=
  ⟨rfl, fun s => ⟨_, rfl, by simp only [blkPk_toNat, blkSample_k8_toNat]⟩⟩

/-! ### BLKUNPACK -/

theorem blkElement_le16_toNat (u8 : Config.RoundOverflow) (c : Sample) : (blkElement .le16 u8 c).toNat = c.toNat := by
  rw [blkElement, BitVec.toNat_setWidth_of_le (by decide), toNat_append_eq_add]
  simp only [sampleOut16, if_true, sampleLow_toNat, sampleHigh_toNat]
  omega

theorem blkElement_be16_toNat (u8 : Config.RoundOverflow) (c : Sample) :
    (blkElement .be16 u8 c).toNat = c.toNat % 256 * 256 + c.toNat / 256 := by
  rw [blkElement, BitVec.toNat_setWidth_of_le (by decide), toNat_append_eq_add]
  simp only [sampleOut16, one_ne_zero, if_false, Nat.reducePow, sampleLow_toNat, sampleHigh_toNat]

theorem blkElement_k8_toNat (u8 : Config.RoundOverflow) (c : Sample) :
    (blkElement .k8 u8 c).toNat =
      if (c.toNat + 2) / 4 ≤ 255 then (c.toNat + 2) / 4 else if u8 = .wrap then 0 else 255 := by
  rw [blkElement, BitVec.toNat_setWidth_of_le (by decide), sampleOut8_toNat]

/-- The components of BLK_PK are its digits in base 1024. -/
theorem blkUnpacked_toNat (r : BlkRegs) :
    (blkUnpacked r).c0.toNat = r.pk.toNat % 1024 ∧ (blkUnpacked r).c1.toNat = r.pk.toNat / 2 ^ 10 % 1024 ∧
      (blkUnpacked r).c2.toNat = r.pk.toNat / 2 ^ 20 % 1024 ∧
      (blkUnpacked r).c3.toNat = r.pk.toNat / 2 ^ 30 % 1024 := by
  simp only [blkUnpacked, unpackBlock, BitVec.extractLsb'_toNat, BitVec.toNat_setWidth, Nat.shiftRight_eq_div_pow]
  omega

/-- Settles O45: a little-endian element is its component. -/
theorem blkunpack16LeResult : Obligations.Blkunpack16LeResult := by
  refine ⟨rfl, fun s => ⟨_, _, _, _, rfl, ?_⟩⟩
  simpa only [blkElement_le16_toNat] using blkUnpacked_toNat s.blk

/-- Settles O46: a big-endian element has its component's bytes swapped. -/
theorem blkunpack16BeResult : Obligations.Blkunpack16BeResult := by
  refine ⟨rfl, fun s => ⟨_, _, _, _, rfl, ?_⟩⟩
  obtain ⟨h0, h1, h2, h3⟩ := blkUnpacked_toNat s.blk
  simp only [blkElement_be16_toNat, h0, h1, h2, h3, and_self]

/-- Settles O47: an 8-bit element is its component rounded. -/
theorem blkunpack8Result : Obligations.Blkunpack8Result := by
  refine ⟨rfl, fun s => ⟨_, _, _, _, rfl, ?_⟩⟩
  obtain ⟨h0, h1, h2, h3⟩ := blkUnpacked_toNat s.blk
  simp only [blkElement_k8_toNat, h0, h1, h2, h3, and_self]

end Sys2Proof.Proofs
end

section
/-! The checks of PACK and UNPACK (42_codec.md R160, R170, R171), the plans they lead to, and the ends of a run under
the answers of the memory port (R172). -/

namespace Sys2Proof.Proofs

open Sys2Proof.Machine

/-! ### NoOverlap (40_geometry.md R105) -/

/-- Two windows are disjoint when they share no byte. -/
theorem disjointRegions_window_iff {a b : PlaneRegs} : disjointRegions a.window b.window = true ↔ PlanesApart a b := by
  constructor
  · exact fun h x ⟨ha, hb⟩ => disjointRegions_sound h ha hb
  · intro h
    have hfirst := h (max a.addr.toNat b.addr.toNat)
    simp only [disjointRegions, Bool.or_eq_true, decide_eq_true_eq]
    simp only [PlaneRegs.window]
    omega

theorem PlanesApart.symm {a b : PlaneRegs} (h : PlanesApart a b) : PlanesApart b a :=
  fun x ⟨hb, ha⟩ => h x ⟨ha, hb⟩

theorem pairwiseDisjoint_iff {rs : List Config.Region} :
    pairwiseDisjoint rs = true ↔ rs.Pairwise fun a b => disjointRegions a b = true := by
  induction rs with
  | nil => simp [pairwiseDisjoint]
  | cons r rest ih => simp [pairwiseDisjoint, ih]

theorem planes_nodup (f : Format) : f.planes.Nodup := by
  rcases planes_cases f with hf | hf
  all_goals
    rw [hf]
    decide

theorem noOverlap_iff {src dst : FrameRegs} {fs fd : Format} :
    noOverlap src dst fs fd = true ↔ NoOverlapHolds src dst fs fd := by
  have hself : (fd.planes.Pairwise fun p q => PlanesApart (dst.plane p) (dst.plane q)) ↔
      ∀ p ∈ fd.planes, ∀ q ∈ fd.planes, p ≠ q → PlanesApart (dst.plane p) (dst.plane q) := by
    have hsymm : Std.Symm fun p q => PlanesApart (dst.plane p) (dst.plane q) := ⟨fun _ _ => PlanesApart.symm⟩
    exact ⟨fun h p hp q hq hne => h.forall hp hq hne, fun h => (planes_nodup fd).pairwise_of_forall_ne h⟩
  simp only [noOverlap, frameWindows, Bool.and_eq_true, pairwiseDisjoint_iff, List.pairwise_map, List.all_map,
    List.all_eq_true, Function.comp_apply, disjointRegions_window_iff, hself, NoOverlapHolds]

/-! ### The checks -/

/-- The checks after CodecCheck, of two registered formats (42_codec.md R170, R171). -/
theorem codecFramesOK_iff {s : State} {fs fd : Format} (hs : registry s.src.fmt = some fs)
    (hd : registry s.dst.fmt = some fd) : codecFramesOK s fs fd = true ↔ s.CodecChecks fs fd := by
  simp only [codecFramesOK, Bool.and_eq_true, beq_iff_eq, windowOK_iff_windowHolds, noOverlap_iff, dimsOK_iff,
    State.CodecChecks, ShapeHolds, hs, hd, true_and, and_assoc]

theorem codecChecks_registry {s : State} {fs fd : Format} (h : s.CodecChecks fs fd) :
    registry s.src.fmt = some fs ∧ registry s.dst.fmt = some fd := by
  obtain ⟨⟨hs, _⟩, ⟨hd, _⟩, _⟩ := h
  exact ⟨hs, hd⟩

/-- What PACK does with two frames once its checks hold (42_codec.md R170). -/
def packPlanOf (s : State) (l : Layout) (k : Kind) (o od : Order) : CodecPlan where
  reads := frameAddrs s.src (.unpacked l k o) s.src.w.toNat s.src.h.toNat
  cells := packCells s.mem s.src s.dst l k o od s.src.w.toNat s.src.h.toNat
  windows := frameWindows s.src (.unpacked l k o) ++ frameWindows s.dst (.packed od)

/-- What UNPACK does with two frames once its checks hold (42_codec.md R171). -/
def unpackPlanOf (s : State) (l : Layout) (k : Kind) (o os : Order) : CodecPlan where
  reads := frameAddrs s.src (.packed os) s.src.w.toNat s.src.h.toNat
  cells := unpackCells s.mem s.src s.dst l k o os s.params.u8RoundOverflow s.src.w.toNat s.src.h.toNat
  windows := frameWindows s.src (.packed os) ++ frameWindows s.dst (.unpacked l k o)

theorem packPlan_of_pair {s : State} {l : Layout} {k : Kind} {o od : Order}
    (hs : registry s.src.fmt = some (.unpacked l k o)) (hd : registry s.dst.fmt = some (.packed od)) :
    packPlan s = if codecFramesOK s (.unpacked l k o) (.packed od) then .ok (packPlanOf s l k o od)
      else .error .invalidArgument := by
  simp only [packPlan, hs, hd, packPlanOf]

theorem unpackPlan_of_pair {s : State} {l : Layout} {k : Kind} {o os : Order}
    (hs : registry s.src.fmt = some (.packed os)) (hd : registry s.dst.fmt = some (.unpacked l k o)) :
    unpackPlan s = if codecFramesOK s (.packed os) (.unpacked l k o) then .ok (unpackPlanOf s l k o os)
      else .error .invalidArgument := by
  simp only [unpackPlan, hs, hd, unpackPlanOf]

theorem packPlan_of_badChecks {s : State} {l : Layout} {k : Kind} {o od : Order}
    (hs : registry s.src.fmt = some (.unpacked l k o)) (hd : registry s.dst.fmt = some (.packed od))
    (h : ¬s.CodecChecks (.unpacked l k o) (.packed od)) : packPlan s = .error .invalidArgument := by
  rw [packPlan_of_pair hs hd, if_neg (mt (codecFramesOK_iff hs hd).mp h)]

theorem unpackPlan_of_badChecks {s : State} {l : Layout} {k : Kind} {o os : Order}
    (hs : registry s.src.fmt = some (.packed os)) (hd : registry s.dst.fmt = some (.unpacked l k o))
    (h : ¬s.CodecChecks (.packed os) (.unpacked l k o)) : unpackPlan s = .error .invalidArgument := by
  rw [unpackPlan_of_pair hs hd, if_neg (mt (codecFramesOK_iff hs hd).mp h)]

theorem packPlan_of_checks {s : State} {l : Layout} {k : Kind} {o od : Order}
    (h : s.CodecChecks (.unpacked l k o) (.packed od)) : packPlan s = .ok (packPlanOf s l k o od) := by
  obtain ⟨hs, hd⟩ := codecChecks_registry h
  rw [packPlan_of_pair hs hd, if_pos ((codecFramesOK_iff hs hd).mpr h)]

theorem unpackPlan_of_checks {s : State} {l : Layout} {k : Kind} {o os : Order}
    (h : s.CodecChecks (.packed os) (.unpacked l k o)) : unpackPlan s = .ok (unpackPlanOf s l k o os) := by
  obtain ⟨hs, hd⟩ := codecChecks_registry h
  rw [unpackPlan_of_pair hs hd, if_pos ((codecFramesOK_iff hs hd).mpr h)]

/-! ### The refusals (42_codec.md R160) -/

theorem formatRows_codes : ∀ row ∈ formatRows,
    (∀ l k o, row.2 = .unpacked l k o → row.1 ≤ 12) ∧ ∀ o, row.2 = .packed o → 13 ≤ row.1 := by
  simp [formatRows]

theorem code_le_of_unpacked {code : Word} {l : Layout} {k : Kind} {o : Order}
    (h : registry code = some (.unpacked l k o)) : code.toNat ≤ 12 :=
  (formatRows_codes _ (mem_formatRows_of_registry h)).1 l k o rfl

theorem le_code_of_packed {code : Word} {o : Order} (h : registry code = some (.packed o)) : 13 ≤ code.toNat :=
  (formatRows_codes _ (mem_formatRows_of_registry h)).2 o rfl

theorem exists_format {code : Word} (h : 1 ≤ code.toNat ∧ code.toNat ≤ 14) : ∃ f, registry code = some f := by
  rw [← Option.ne_none_iff_exists', ne_eq, registry_eq_none_iff]
  omega

theorem exists_unpacked {code : Word} (h : 1 ≤ code.toNat ∧ code.toNat ≤ 12) :
    ∃ l k o, registry code = some (.unpacked l k o) := by
  obtain ⟨f, hf⟩ := exists_format (code := code) (by omega)
  cases f with
  | unpacked l k o => exact ⟨l, k, o, hf⟩
  | packed o => exact absurd (le_code_of_packed hf) (by omega)

theorem exists_packed {code : Word} (h : 13 ≤ code.toNat ∧ code.toNat ≤ 14) :
    ∃ o, registry code = some (.packed o) := by
  obtain ⟨f, hf⟩ := exists_format (code := code) (by omega)
  cases f with
  | unpacked l k o => exact absurd (code_le_of_unpacked hf) (by omega)
  | packed o => exact ⟨o, hf⟩

section Refusals

variable {s : State} {fs fd : Format}

theorem plans_of_unregistered (h : registry s.src.fmt = none ∨ registry s.dst.fmt = none) :
    packPlan s = .error .invalidArgument ∧ unpackPlan s = .error .invalidArgument := by
  rcases hs : registry s.src.fmt with _ | _ | _
  · simp only [packPlan, unpackPlan, hs, and_self]
  all_goals
    have hd : registry s.dst.fmt = none := h.resolve_left (by simp [hs])
    simp only [packPlan, unpackPlan, hs, hd, and_self]

/-- PACK takes an unpacked source and a packed destination alone. -/
theorem packPlan_of_otherPair (hs : registry s.src.fmt = some fs) (hd : registry s.dst.fmt = some fd)
    (h : ∀ l k o od, fs = .unpacked l k o → fd ≠ .packed od) : packPlan s = .error .unsupported := by
  cases fs with
  | packed os => simp only [packPlan, hs, hd]
  | unpacked l k o =>
    cases fd with
    | packed od => exact absurd rfl (h l k o od rfl)
    | unpacked => simp only [packPlan, hs, hd]

/-- UNPACK takes a packed source and an unpacked destination alone. -/
theorem unpackPlan_of_otherPair (hs : registry s.src.fmt = some fs) (hd : registry s.dst.fmt = some fd)
    (h : ∀ os l k o, fs = .packed os → fd ≠ .unpacked l k o) : unpackPlan s = .error .unsupported := by
  cases fs with
  | unpacked l k o => simp only [unpackPlan, hs, hd]
  | packed os =>
    cases fd with
    | unpacked l k o => exact absurd rfl (h os l k o rfl)
    | packed => simp only [unpackPlan, hs, hd]

theorem exec_pack_of_error {e : ErrCode} (h : packPlan s = .error e) : exec .pack s = .next (s.finish e) := by
  simp [exec, execPack, h, raise_def]

theorem exec_unpack_of_error {e : ErrCode} (h : unpackPlan s = .error e) : exec .unpack s = .next (s.finish e) := by
  simp [exec, execUnpack, h, raise_def]

end Refusals

/-- Settles O50: CodecCheck looks at the two codes, and every check after it raises INVALID_ARGUMENT. -/
theorem codecRefusesBadFrames : Obligations.CodecRefusesBadFrames := by
  intro s failed n m
  refine ⟨fun hbad => ?_, fun hn hm hpair => ?_, fun hn hm hpair => ?_, fun hn hm hbad => ?_, fun hn hm hbad => ?_⟩
  · have hnone : registry s.src.fmt = none ∨ registry s.dst.fmt = none :=
      hbad.imp (fun h => registry_eq_none_iff.mpr (by omega)) fun h => registry_eq_none_iff.mpr (by omega)
    obtain ⟨hpack, hunpack⟩ := plans_of_unregistered hnone
    exact ⟨exec_pack_of_error hpack, exec_unpack_of_error hunpack⟩
  · obtain ⟨fs, hs⟩ := exists_format hn
    obtain ⟨fd, hd⟩ := exists_format hm
    refine exec_pack_of_error (packPlan_of_otherPair hs hd ?_)
    rintro l k o od rfl rfl
    exact hpair ⟨code_le_of_unpacked hs, le_code_of_packed hd⟩
  · obtain ⟨fs, hs⟩ := exists_format hn
    obtain ⟨fd, hd⟩ := exists_format hm
    refine exec_unpack_of_error (unpackPlan_of_otherPair hs hd ?_)
    rintro os l k o rfl rfl
    exact hpair ⟨le_code_of_packed hs, code_le_of_unpacked hd⟩
  · obtain ⟨l, k, o, hs⟩ := exists_unpacked hn
    obtain ⟨od, hd⟩ := exists_packed hm
    exact exec_pack_of_error (packPlan_of_badChecks hs hd (hbad _ _))
  · obtain ⟨os, hs⟩ := exists_packed hn
    obtain ⟨l, k, o, hd⟩ := exists_unpacked hm
    exact exec_unpack_of_error (unpackPlan_of_badChecks hs hd (hbad _ _))

/-! ### The ends of a run (42_codec.md R172) -/

/-- A byte that a list of writes reaches holds what one of the writes put there. -/
theorem cell_of_read_writeAll {m : Memory} {cells : List Host.Cell} {a : Nat} (hm : m.wf = true)
    (h : ∃ c ∈ cells, c.1 = a) : (a, (m.writeAll cells).read a) ∈ cells := by
  induction cells generalizing m with
  | nil => simp at h
  | cons c rest ih =>
    by_cases hrest : ∃ d ∈ rest, d.1 = a
    · exact List.mem_cons_of_mem _ (ih (Memory.wf_write _ _ hm) hrest)
    · have hlast : ∀ d ∈ rest, d.1 ≠ a := fun d hd hda => hrest ⟨d, hd, hda⟩
      obtain rfl : c.1 = a := by simpa [hrest] using h
      rw [Memory.writeAll, Memory.read_writeAll_other hlast, Memory.read_write_self c.2 (lo := 0) hm]
      exact List.mem_cons_self

theorem cell_of_read_settled {m : Memory} {draw : Nat} {cells : List Host.Cell} {a : Nat} (hm : m.wf = true)
    (h : ∃ c ∈ cells, c.1 = a) : (a, (m.writeAll (settledWrites draw cells)).read a) ∈ cells := by
  have haddr : a ∈ (settledWrites draw cells).map Prod.fst := by
    rw [settledWrites_fst]
    exact List.mem_map.mpr h
  exact settledWrites_subset (cell_of_read_writeAll hm (List.mem_map.mp haddr))

/-- Whichever subset of the writes happened, a byte is the old one or a written one. -/
theorem read_partial_cases {m : Memory} {draw a : Nat} {cells : List Host.Cell} (hm : m.wf = true) :
    (m.writeAll (partialWrites draw cells)).read a = m.read a ∨
      (a, (m.writeAll (partialWrites draw cells)).read a) ∈ cells := by
  by_cases h : ∃ c ∈ partialWrites draw cells, c.1 = a
  · exact .inr (partialWrites_subset (cell_of_read_writeAll hm h)).1
  · exact .inl (Memory.read_writeAll_other fun c hc hca => h ⟨c, hc, hca⟩)

section Runs

variable {s t : State} {p : CodecPlan}

theorem exec_pack_of_plan (h : packPlan s = .ok p) : exec .pack s = runCodec p s := by
  simp [exec, execPack, h]

theorem exec_unpack_of_plan (h : unpackPlan s = .ok p) : exec .unpack s = runCodec p s := by
  simp [exec, execUnpack, h]

theorem runCodec_of_served (hdevice : hitsDevice s.params.devices p.windows = false)
    (hport : ∀ a ∈ p.touched, portAnswer s.port a = .data) :
    runCodec p s = .next ((s.withMem (s.mem.writeAll (settledWrites s.draws p.cells))).drew.finish .ok) := by
  rw [runCodec, CodecPlan.earlyEnds_of_served hport, hdevice]
  rfl

theorem runCodec_of_error (hdevice : hitsDevice s.params.devices p.windows = false)
    (hanswered : ∀ a ∈ p.touched, portAnswer s.port a ≠ .silent)
    (herror : ∃ a ∈ p.touched, portAnswer s.port a = .error) :
    runCodec p s = .next ((s.withMem (s.mem.writeAll (partialWrites s.draws p.cells))).drew.finish .busError) := by
  have hsilent : p.touched.any (fun a => portAnswer s.port a == .silent) = false := by simpa using hanswered
  have hhas : p.touched.any (fun a => portAnswer s.port a == .error) = true := by simpa using herror
  have hends : p.earlyEnds s.port = [.busError] := by simp [CodecPlan.earlyEnds, hsilent, hhas]
  rw [runCodec, hends, hdevice]
  rfl

/-- A run that completes the command in flight with OK has written everything. -/
theorem runCodec_ok (h : runCodec p s = .next t) (hbusy : s.inFlight ≠ none) (hidle : t.inFlight = none)
    (hok : t.status.err = .ok) :
    t = (s.withMem (s.mem.writeAll (settledWrites s.draws p.cells))).drew.finish .ok := by
  rcases runCodec_cases h with ⟨_, rfl⟩ | ⟨_, rfl⟩ | ⟨_, rfl⟩
  · rfl
  · cases hok
  · exact absurd hidle hbusy

end Runs

/-- Settles O51: BUS_ERROR is the one early end, and every write that happened is one of the command's. -/
theorem codecBusErrorLeavesASubset : Obligations.CodecBusErrorLeavesASubset := by
  intro i s p hplan hdevice hwf hanswered herror
  have hexec : exec i s = runCodec p s := by
    rcases hplan with ⟨rfl, hp⟩ | ⟨rfl, hp⟩
    · exact exec_pack_of_plan hp
    · exact exec_unpack_of_plan hp
  exact ⟨_, hexec.trans (runCodec_of_error hdevice hanswered herror), fun a => read_partial_cases hwf⟩

end Sys2Proof.Proofs
end

section
/-! Where the bytes of a frame stand (40_geometry.md R104, 42_codec.md R155 to R157): every byte of a packed block and
of an element is one byte of one row of one plane, and two bytes of a frame whose rows stand apart have two addresses. -/

namespace Sys2Proof.Proofs

open Sys2Proof.Machine

/-! ### Rows -/

/-- Byte c of row r of a plane. -/
def rowByteAddr (fr : FrameRegs) (p : Plane) (r c : Nat) : Nat :=
  (fr.plane p).addr.toNat + r * (fr.plane p).stride.toNat + c

/-- The byte lies in the logical width of a row of the frame (40_geometry.md R104). -/
def RowByteIn (f : Format) (w h : Nat) (p : Plane) (r c : Nat) : Prop :=
  p ∈ f.planes ∧ r < planeLines h p ∧ c < rowBytes f w p

/-- A number has one quotient and one remainder. -/
theorem row_column_unique {n r r' c c' : Nat} (hc : c < n) (hc' : c' < n) (h : r * n + c = r' * n + c') :
    r = r' ∧ c = c' := by
  have hrow : r = r' := by
    have hdiv := congrArg (· / n) h
    simpa [Nat.mul_comm _ n, Nat.mul_add_div (Nat.zero_lt_of_lt hc), Nat.div_eq_of_lt hc, Nat.div_eq_of_lt hc']
      using hdiv
  subst hrow
  exact ⟨rfl, Nat.add_left_cancel h⟩

/-- In a frame whose windows and rows stand apart no two bytes share an address (40_geometry.md R104, R105). -/
theorem rowByteAddr_injective {addrW : Nat} {fr : FrameRegs} {f : Format} {w h : Nat}
    (hwindow : WindowHolds addrW fr f w h)
    (hplanes : ∀ p ∈ f.planes, ∀ q ∈ f.planes, p ≠ q → PlanesApart (fr.plane p) (fr.plane q))
    (hrows : RowsApart fr f w) {p p' : Plane} {r r' c c' : Nat} (hin : RowByteIn f w h p r c)
    (hin' : RowByteIn f w h p' r' c') (heq : rowByteAddr fr p r c = rowByteAddr fr p' r' c') :
    p = p' ∧ r = r' ∧ c = c' := by
  obtain ⟨hp, hr, hc⟩ := hin
  obtain ⟨hp', hr', hc'⟩ := hin'
  have hplane : p = p' := by
    by_contra hne
    have hok := windowOK_iff.mp (windowOK_iff_windowHolds.mpr hwindow)
    obtain ⟨hlo, hhi, _⟩ := row_byte_in_window (hok p hp) hr hc
    obtain ⟨hlo', hhi', _⟩ := row_byte_in_window (hok p' hp') hr' hc'
    simp only [rowByteAddr] at heq
    exact hplanes p hp p' hp' hne _ ⟨⟨hlo, hhi⟩, heq ▸ ⟨hlo', hhi'⟩⟩
  subst hplane
  have hwide := hrows p hp
  simp only [rowByteAddr, Nat.add_assoc] at heq
  exact ⟨rfl, row_column_unique (hc.trans_le hwide) (hc'.trans_le hwide) (Nat.add_left_cancel heq)⟩

/-! ### Packed blocks -/

/-- A byte of a packed frame: byte `byte` of block `block` of row `row` of plane `plane`. -/
structure PackedByte where
  plane : Plane
  row : Nat
  block : Nat
  byte : Nat

namespace PackedByte

/-- The byte lies in a packed frame of width w and height h. -/
def inFrame (w h : Nat) (j : PackedByte) : Prop :=
  j.plane ∈ [Plane.p0, .p1] ∧ j.row < planeLines h j.plane ∧ j.block < w / 4 ∧ j.byte < 5

/-- Where the byte stands. -/
def addr (fr : FrameRegs) (j : PackedByte) : Nat := packedByteAddr fr j.plane j.row j.block j.byte

theorem addr_eq_rowByteAddr (fr : FrameRegs) (j : PackedByte) :
    j.addr fr = rowByteAddr fr j.plane j.row (5 * j.block + j.byte) := by
  rw [addr, packedByteAddr, rowByteAddr, Nat.add_assoc]

theorem inFrame.rowByteIn {w h : Nat} {j : PackedByte} (o : Order) (hj : j.inFrame w h) :
    RowByteIn (.packed o) w h j.plane j.row (5 * j.block + j.byte) := by
  obtain ⟨hplane, hrow, hblock, hbyte⟩ := hj
  exact ⟨hplane, hrow, by rw [rowBytes]; omega⟩

theorem eq_of_column {j j' : PackedByte} (hbyte : j.byte < 5) (hbyte' : j'.byte < 5) (hplane : j.plane = j'.plane)
    (hrow : j.row = j'.row) (hcolumn : 5 * j.block + j.byte = 5 * j'.block + j'.byte) : j = j' := by
  have hblock : j.block = j'.block := by omega
  have hsame : j.byte = j'.byte := by omega
  cases j
  cases j'
  simp_all

end PackedByte

/-! ### Elements -/

theorem chromaPlace_lt (o : Order) (c : Comp) : chromaPlace o c < 2 := by
  cases o <;> cases c <;> decide

/-- The component at a place of a chroma order (42_codec.md R157). -/
def compAt (o : Order) (n : Nat) : Comp := if n = 0 then o.first else o.second

@[simp] theorem compAt_chromaPlace (o : Order) (c : Comp) : compAt o (chromaPlace o c) = c := by
  cases o <;> cases c <;> rfl

theorem chromaPlace_compAt (o : Order) {n : Nat} (hn : n < 2) : chromaPlace o (compAt o n) = n := by
  match n, hn with
  | 0, _ | 1, _ => cases o <;> rfl

theorem chromaPlace_injective {o : Order} {c c' : Comp} (h : chromaPlace o c = chromaPlace o c') : c = c' := by
  rw [← compAt_chromaPlace o c, h, compAt_chromaPlace]

/-- The plane of an element (42_codec.md R157 (b)). -/
def elementPlane (l : Layout) (o : Order) : ElementAt → Plane
  | .luma _ _ => .p0
  | .chroma _ _ c =>
    match l with
    | .planar => if chromaPlace o c = 0 then .p1 else .p2
    | .semiPlanar => .p1

/-- The row of an element in its plane. -/
def elementRow : ElementAt → Nat
  | .luma r _ => r
  | .chroma r _ _ => r

/-- How many elements stand before an element in its row (42_codec.md R157 (b)). -/
def elementColumn (l : Layout) (o : Order) : ElementAt → Nat
  | .luma _ x => x
  | .chroma _ x c =>
    match l with
    | .planar => x
    | .semiPlanar => 2 * x + chromaPlace o c

/-- An element's byte is a byte of a row. -/
theorem element_addr_eq (fr : FrameRegs) (l : Layout) (k : Kind) (o : Order) (e : ElementAt) (i : Nat) :
    e.addr fr l k o + i =
      rowByteAddr fr (elementPlane l o e) (elementRow e) (elementColumn l o e * k.size + i) := by
  rw [rowByteAddr, ← Nat.add_assoc]
  cases e with
  | luma r x => rfl
  | chroma r x c => cases l <;> cases o <;> cases c <;> rfl

theorem kindSize_pos (k : Kind) : 0 < k.size := by cases k <;> decide

theorem element_rowByteIn {l : Layout} {k : Kind} {o : Order} {w h i : Nat} {e : ElementAt} (he : e.inFrame w h)
    (hi : i < k.size) :
    RowByteIn (.unpacked l k o) w h (elementPlane l o e) (elementRow e) (elementColumn l o e * k.size + i) := by
  cases e with
  | luma r x =>
    obtain ⟨hr, hx⟩ := he
    cases l
    all_goals exact ⟨by simp [Format.planes, elementPlane], hr, element_lt_row hx hi⟩
  | chroma r x c =>
    obtain ⟨hr, hx⟩ := he
    have hplace := chromaPlace_lt o c
    cases l with
    | planar =>
      by_cases hfirst : chromaPlace o c = 0
      all_goals
        simp only [elementPlane, elementRow, elementColumn, hfirst, if_true, if_false]
        exact ⟨by simp [Format.planes], hr, element_lt_row hx hi⟩
    | semiPlanar =>
      exact ⟨by simp [Format.planes, elementPlane], hr, element_lt_row (x := 2 * x + chromaPlace o c) (by omega) hi⟩

/-- An element is known by its plane, its row and its place in the row. -/
theorem element_eq_of_place {l : Layout} {o : Order} {e e' : ElementAt}
    (hplane : elementPlane l o e = elementPlane l o e') (hrow : elementRow e = elementRow e')
    (hcolumn : elementColumn l o e = elementColumn l o e') : e = e' := by
  have hluma (c : Comp) : elementPlane l o (.chroma 0 0 c) ≠ .p0 := by
    cases l <;> cases o <;> cases c <;> decide
  cases e with
  | luma r x =>
    cases e' with
    | luma r' x' => exact congrArg₂ ElementAt.luma hrow hcolumn
    | chroma r' x' c' => exact absurd hplane.symm (hluma c')
  | chroma r x c =>
    cases e' with
    | luma r' x' => exact absurd hplane (hluma c)
    | chroma r' x' c' =>
      obtain rfl : r = r' := hrow
      have hlt := chromaPlace_lt o c
      have hlt' := chromaPlace_lt o c'
      have hsame : x = x' ∧ chromaPlace o c = chromaPlace o c' := by
        cases l with
        | planar =>
          refine ⟨hcolumn, ?_⟩
          simp only [elementPlane] at hplane
          grind
        | semiPlanar =>
          simp only [elementColumn] at hcolumn
          omega
      rw [hsame.1, chromaPlace_injective hsame.2]

/-- Every byte of a row belongs to an element, where a row has a whole number of chroma pairs. -/
theorem exists_element {l : Layout} {k : Kind} {o : Order} {w h r c : Nat} {p : Plane} (hw : w % 2 = 0)
    (hin : RowByteIn (.unpacked l k o) w h p r c) :
    ∃ e i, e.inFrame w h ∧ i < k.size ∧ elementPlane l o e = p ∧ elementRow e = r ∧
      elementColumn l o e * k.size + i = c := by
  obtain ⟨hp, hr, hc⟩ := hin
  have hsize := kindSize_pos k
  suffices hplace : ∃ e : ElementAt, e.inFrame w h ∧ elementPlane l o e = p ∧ elementRow e = r ∧
      elementColumn l o e = c / k.size by
    obtain ⟨e, he, hplane, hrow, hcolumn⟩ := hplace
    exact ⟨e, c % k.size, he, Nat.mod_lt c hsize, hplane, hrow, by rw [hcolumn, Nat.div_add_mod']⟩
  cases l with
  | planar =>
    cases p with
    | p0 => exact ⟨.luma r (c / k.size), ⟨hr, (Nat.div_lt_iff_lt_mul hsize).mpr hc⟩, rfl, rfl, rfl⟩
    | p1 =>
      exact ⟨.chroma r (c / k.size) (compAt o 0), ⟨hr, (Nat.div_lt_iff_lt_mul hsize).mpr hc⟩, by
        simp [elementPlane, chromaPlace_compAt], rfl, rfl⟩
    | p2 =>
      exact ⟨.chroma r (c / k.size) (compAt o 1), ⟨hr, (Nat.div_lt_iff_lt_mul hsize).mpr hc⟩, by
        simp [elementPlane, chromaPlace_compAt], rfl, rfl⟩
  | semiPlanar =>
    have hq : c / k.size < w := (Nat.div_lt_iff_lt_mul hsize).mpr hc
    cases p with
    | p0 => exact ⟨.luma r (c / k.size), ⟨hr, hq⟩, rfl, rfl, rfl⟩
    | p1 =>
      have hplace := chromaPlace_compAt o (Nat.mod_lt (c / k.size) Nat.two_pos)
      exact ⟨.chroma r (c / k.size / 2) (compAt o (c / k.size % 2)), ⟨hr, by omega⟩, rfl, rfl, by
        rw [elementColumn, hplace]; omega⟩
    | p2 => simp [Format.planes] at hp

end Sys2Proof.Proofs
end

section
/-! The bytes that PACK and UNPACK write (42_codec.md R155 to R157, R170, R171), as the bytes of the blocks and of the
elements of the destination frame, and what memory holds after a list of such writes. -/

namespace Sys2Proof.Proofs

open Sys2Proof.Machine

/-! ### What memory holds after a list of writes -/

section Writes

variable {ι : Type} {cells : List Host.Cell} {target : ι → Prop} {addr : ι → Nat} {byte : ι → Option Byte}

/-- The cells are those of the targets, each with its byte at its address. -/
def CellsAre (cells : List Host.Cell) (target : ι → Prop) (addr : ι → Nat) (byte : ι → Option Byte) : Prop :=
  ∀ a b, (a, b) ∈ cells ↔ ∃ j, target j ∧ addr j = a ∧ byte j = some b

variable (hcells : CellsAre cells target addr byte)

include hcells

theorem CellsAre.read_other (m : Memory) (draw : Nat) {a : Nat} (ha : ∀ j, target j → addr j ≠ a) :
    (m.writeAll (settledWrites draw cells)).read a = m.read a := by
  refine Memory.read_settled_other fun ⟨a', b⟩ hc => ?_
  obtain ⟨j, hj, rfl, _⟩ := (hcells _ _).mp hc
  exact ha j hj

/-- The address of a target holds the byte of a target with that address (42_codec.md R172). -/
theorem CellsAre.read_target {m : Memory} (hm : m.wf = true) (draw : Nat) {j : ι} (hj : target j)
    (hbyte : (byte j).isSome) :
    ∃ j', target j' ∧ addr j' = addr j ∧
      byte j' = some ((m.writeAll (settledWrites draw cells)).read (addr j)) := by
  obtain ⟨b, hb⟩ := Option.isSome_iff_exists.mp hbyte
  exact (hcells _ _).mp (cell_of_read_settled hm ⟨(addr j, b), (hcells _ _).mpr ⟨j, hj, rfl, hb⟩, rfl⟩)

/-- Where no two targets share an address, the address of a target holds its own byte. -/
theorem CellsAre.read_own {m : Memory} (hm : m.wf = true) (draw : Nat)
    (happart : ∀ j j', target j → target j' → addr j = addr j' → j = j') {j : ι} (hj : target j)
    (hbyte : (byte j).isSome) : byte j = some ((m.writeAll (settledWrites draw cells)).read (addr j)) := by
  obtain ⟨j', hj', haddr, hread⟩ := hcells.read_target hm draw hj hbyte
  rwa [← happart j j' hj hj' haddr.symm] at hread

end Writes

/-! ### The bytes that PACK writes -/

theorem chromaAddr_eq (fr : FrameRegs) (l : Layout) (k : Kind) (o : Order) (r x : Nat) (c : Comp) :
    chromaAddr fr l k o r x c = (ElementAt.chroma r x c).addr fr l k o := by
  cases l <;> cases o <;> cases c <;> rfl

theorem packedBlockOf_chroma (s : State) (l : Layout) (k : Kind) (o od : Order) (r b : Nat) :
    packedBlockOf s l k o od .p1 r b = packBlock (chromaQuad s.mem s.src l k o od r b) := by
  cases od
  all_goals
    simp only [packedBlockOf, chromaQuad, chromaAddr_eq]
    rfl

theorem mem_cellsAt_blockBytes {a : Nat} {q : PackedBlock} {c : Host.Cell} :
    c ∈ cellsAt a (blockBytes q) ↔ ∃ i, i < 5 ∧ a + i = c.1 ∧ blockByte q i = c.2 := by
  rw [mem_cellsAt]
  constructor
  · rintro ⟨i, hbyte, haddr⟩
    have hi : i < 5 := (List.getElem?_eq_some_iff.mp hbyte).1
    rw [blockBytes_getElem? q hi] at hbyte
    exact ⟨i, hi, haddr.symm, Option.some.inj hbyte⟩
  · rintro ⟨i, hi, haddr, hbyte⟩
    exact ⟨i, by rw [blockBytes_getElem? q hi, hbyte], haddr.symm⟩

/-- The byte of a packed frame that PACK makes of the source frame. -/
def PackedByte.content (s : State) (l : Layout) (k : Kind) (o od : Order) (j : PackedByte) : Byte :=
  blockByte (packedBlockOf s l k o od j.plane j.row j.block) j.byte

theorem packCells_are (s : State) (l : Layout) (k : Kind) (o od : Order) :
    CellsAre (packPlanOf s l k o od).cells (PackedByte.inFrame s.src.w.toNat s.src.h.toNat) (PackedByte.addr s.dst)
      (fun j => some (j.content s l k o od)) := by
  intro a b
  simp only [packPlanOf, packCells, List.mem_append, mem_overBlocks, mem_cellsAt_blockBytes, Option.some.injEq]
  constructor
  · rintro (⟨r, hr, n, hn, i, hi, haddr, hbyte⟩ | ⟨r, hr, n, hn, i, hi, haddr, hbyte⟩)
    · exact ⟨⟨.p0, r, n, i⟩, ⟨by simp, hr, hn, hi⟩, haddr, hbyte⟩
    · exact ⟨⟨.p1, r, n, i⟩, ⟨by simp, hr, hn, hi⟩, haddr, by rw [← hbyte, ← packedBlockOf_chroma]; rfl⟩
  · rintro ⟨⟨p, r, n, i⟩, ⟨hp, hr, hn, hi⟩, haddr, hbyte⟩
    cases p with
    | p0 => exact .inl ⟨r, hr, n, hn, i, hi, haddr, hbyte⟩
    | p1 => exact .inr ⟨r, hr, n, hn, i, hi, haddr, by rw [← packedBlockOf_chroma]; exact hbyte⟩
    | p2 => simp at hp

/-! ### The bytes that UNPACK writes -/

theorem elementBytes_eq_elementImage (k : Kind) (u8 : Config.RoundOverflow) (c : Sample) :
    elementBytes k u8 c = elementImage k u8 c := by
  have hlow : c.setWidth 8 = BitVec.ofNat 8 (c.toNat % 256) :=
    BitVec.eq_of_toNat_eq (by rw [sampleLow_toNat, BitVec.toNat_ofNat]; omega)
  have hhigh : sampleHigh c = BitVec.ofNat 8 (c.toNat / 256) :=
    BitVec.eq_of_toNat_eq (by have := c.isLt; rw [sampleHigh_toNat, BitVec.toNat_ofNat]; omega)
  cases k
  all_goals simp [elementBytes, elementImage, sampleOut16, hlow, hhigh]

@[simp] theorem elementImage_length (k : Kind) (u8 : Config.RoundOverflow) (c : Sample) :
    (elementImage k u8 c).length = k.size := by
  rw [← elementBytes_eq_elementImage, elementBytes_length]

theorem mem_lumaOut {dst : FrameRegs} {k : Kind} {u8 : Config.RoundOverflow} {q : Quad} {r b : Nat} {c : Host.Cell} :
    c ∈ lumaOut dst k u8 q r b ↔
      ∃ j, j < 4 ∧ c ∈ cellsAt (elemAddr dst.p0 r (4 * b + j) k.size) (elementImage k u8 (q.at j)) := by
  simp only [lumaOut, List.mem_append, or_assoc, elementBytes_eq_elementImage]
  constructor
  · rintro (h | h | h | h)
    exacts [⟨0, by decide, h⟩, ⟨1, by decide, h⟩, ⟨2, by decide, h⟩, ⟨3, by decide, h⟩]
  · rintro ⟨j, hj, h⟩
    match j, hj with
    | 0, _ => exact .inl h
    | 1, _ => exact .inr (.inl h)
    | 2, _ => exact .inr (.inr (.inl h))
    | 3, _ => exact .inr (.inr (.inr h))

theorem mem_chromaOut {dst : FrameRegs} {l : Layout} {k : Kind} {o os : Order} {u8 : Config.RoundOverflow} {q : Quad}
    {r b : Nat} {c : Host.Cell} :
    c ∈ chromaOut dst l k o os u8 q r b ↔
      ∃ d comp, d < 2 ∧ c ∈ cellsAt ((ElementAt.chroma r (2 * b + d) comp).addr dst l k o)
        (elementImage k u8 (q.at (2 * d + chromaPlace os comp))) := by
  simp only [chromaOut, List.mem_append, or_assoc, elementBytes_eq_elementImage, chromaAddr_eq]
  constructor
  · have hfirst := chromaPlace_compAt os (n := 0) (by decide)
    have hsecond := chromaPlace_compAt os (n := 1) (by decide)
    rintro (h | h | h | h)
    exacts [⟨0, compAt os 0, by decide, by rw [hfirst]; exact h⟩, ⟨0, compAt os 1, by decide, by rw [hsecond]; exact h⟩,
      ⟨1, compAt os 0, by decide, by rw [hfirst]; exact h⟩, ⟨1, compAt os 1, by decide, by rw [hsecond]; exact h⟩]
  · rintro ⟨d, comp, hd, h⟩
    rw [← compAt_chromaPlace os comp] at h
    have hplace := chromaPlace_lt os comp
    generalize chromaPlace os comp = n at h hplace
    rw [chromaPlace_compAt os hplace] at h
    match d, hd, n, hplace with
    | 0, _, 0, _ => exact .inl h
    | 0, _, 1, _ => exact .inr (.inl h)
    | 1, _, 0, _ => exact .inr (.inr (.inl h))
    | 1, _, 1, _ => exact .inr (.inr (.inr h))

theorem component_luma (s : State) (os : Order) (r b : Nat) {j : Nat} (hj : j < 4) :
    (ElementAt.luma r (4 * b + j)).component s os =
      (unpackBlock (readBlock s.mem (blockAddr s.src.p0 r b))).at j := by
  have hblock : (4 * b + j) / 4 = b := by omega
  have hplace : (4 * b + j) % 4 = j := by omega
  rw [ElementAt.component, hblock, hplace]
  rfl

theorem component_chroma (s : State) (os : Order) (r b : Nat) {d : Nat} (hd : d < 2) (c : Comp) :
    (ElementAt.chroma r (2 * b + d) c).component s os =
      (unpackBlock (readBlock s.mem (blockAddr s.src.p1 r b))).at (2 * d + chromaPlace os c) := by
  have hblock : (2 * b + d) / 2 = b := by omega
  have hplace : (2 * b + d) % 2 = d := by omega
  rw [ElementAt.component, hblock, hplace]
  rfl

/-- The bytes of an element that UNPACK makes of the packed frame. -/
def unpackedImage (s : State) (k : Kind) (os : Order) (e : ElementAt) : List Byte :=
  elementImage k s.params.u8RoundOverflow (e.component s os)

theorem unpackedImage_isSome (s : State) {k : Kind} (os : Order) (e : ElementAt) {i : Nat} (hi : i < k.size) :
    ((unpackedImage s k os e)[i]?).isSome := by
  simpa [unpackedImage] using hi

/-- The cells that UNPACK writes are those of the elements of the destination frame. -/
theorem mem_unpackCells {s : State} {l : Layout} {k : Kind} {o os : Order} (hw : s.src.w.toNat % 4 = 0)
    {c : Host.Cell} :
    c ∈ (unpackPlanOf s l k o os).cells ↔
      ∃ e : ElementAt, e.inFrame s.src.w.toNat s.src.h.toNat ∧
        c ∈ cellsAt (e.addr s.dst l k o) (unpackedImage s k os e) := by
  simp only [unpackPlanOf, unpackCells, List.mem_append, mem_overBlocks, mem_lumaOut, mem_chromaOut]
  constructor
  · rintro (⟨r, hr, b, hb, j, hj, h⟩ | ⟨r, hr, b, hb, d, comp, hd, h⟩)
    · rw [← component_luma s os r b hj] at h
      exact ⟨.luma r (4 * b + j), ⟨hr, by omega⟩, h⟩
    · rw [← component_chroma s os r b hd] at h
      exact ⟨.chroma r (2 * b + d) comp, ⟨hr, by omega⟩, h⟩
  · rintro ⟨e, he, h⟩
    cases e with
    | luma r x =>
      obtain ⟨hr, hx⟩ := he
      rw [← Nat.div_add_mod x 4] at h
      refine .inl ⟨r, hr, x / 4, by omega, x % 4, by omega, ?_⟩
      rw [← component_luma s os r _ (by omega)]
      exact h
    | chroma r x comp =>
      obtain ⟨hr, hx⟩ := he
      rw [← Nat.div_add_mod x 2] at h
      refine .inr ⟨r, hr, x / 2, by omega, x % 2, comp, by omega, ?_⟩
      rw [← component_chroma s os r _ (by omega)]
      exact h

/-- A byte of an element of an unpacked frame of width w and height h. -/
def elementByteIn (k : Kind) (w h : Nat) (j : ElementAt × Nat) : Prop := j.1.inFrame w h ∧ j.2 < k.size

theorem unpackCells_are {s : State} {l : Layout} {k : Kind} {o os : Order} (hw : s.src.w.toNat % 4 = 0) :
    CellsAre (unpackPlanOf s l k o os).cells (elementByteIn k s.src.w.toNat s.src.h.toNat)
      (fun j => j.1.addr s.dst l k o + j.2) (fun j => (unpackedImage s k os j.1)[j.2]?) := by
  intro a b
  simp only [mem_unpackCells hw, mem_cellsAt, Prod.exists]
  constructor
  · rintro ⟨e, he, i, hbyte, haddr⟩
    have hi := (List.getElem?_eq_some_iff.mp hbyte).1
    exact ⟨e, i, ⟨he, by simpa [unpackedImage] using hi⟩, haddr.symm, hbyte⟩
  · rintro ⟨e, i, ⟨he, _⟩, haddr, hbyte⟩
    exact ⟨e, he, i, hbyte, haddr.symm⟩

end Sys2Proof.Proofs
end

section
/-! PACK and UNPACK on frames in memory (42_codec.md R170, R171): what memory holds after them, and the round trip of
R173. -/

namespace Sys2Proof.Proofs

open Sys2Proof.Machine

/-! ### No two bytes of a destination share an address -/

theorem planesApart_of_codecChecks {s : State} {fs fd : Format} (h : s.CodecChecks fs fd) :
    ∀ p ∈ fd.planes, ∀ q ∈ fd.planes, p ≠ q → PlanesApart (s.dst.plane p) (s.dst.plane q) := by
  obtain ⟨_, _, _, _, _, _, hself, _⟩ := h
  exact hself

theorem windowHolds_of_codecChecks {s : State} {fs fd : Format} (h : s.CodecChecks fs fd) :
    WindowHolds s.params.addrW s.dst fd s.src.w.toNat s.src.h.toNat := by
  obtain ⟨_, _, _, _, _, hdst, _⟩ := h
  exact hdst

/-- A packed frame has a width that is a multiple of 4 (40_geometry.md R106). -/
theorem width_of_packedSrc {s : State} {os : Order} {fd : Format} (h : s.CodecChecks (.packed os) fd) :
    s.src.w.toNat % 4 = 0 := by
  obtain ⟨⟨_, _, _, hpacked⟩, _⟩ := h
  exact hpacked os rfl

theorem packedByte_addr_injective {s : State} {fs : Format} {od : Order} (hchecks : s.CodecChecks fs (.packed od))
    (hrows : RowsApart s.dst (.packed od) s.src.w.toNat) (j j' : PackedByte)
    (hj : j.inFrame s.src.w.toNat s.src.h.toNat) (hj' : j'.inFrame s.src.w.toNat s.src.h.toNat)
    (heq : j.addr s.dst = j'.addr s.dst) : j = j' := by
  rw [PackedByte.addr_eq_rowByteAddr, PackedByte.addr_eq_rowByteAddr] at heq
  obtain ⟨hplane, hrow, hcolumn⟩ := rowByteAddr_injective (windowHolds_of_codecChecks hchecks)
    (planesApart_of_codecChecks hchecks) hrows (hj.rowByteIn od) (hj'.rowByteIn od) heq
  obtain ⟨_, _, _, hbyte⟩ := hj
  obtain ⟨_, _, _, hbyte'⟩ := hj'
  exact PackedByte.eq_of_column hbyte hbyte' hplane hrow hcolumn

theorem elementByte_addr_injective {s : State} {fs : Format} {l : Layout} {k : Kind} {o : Order}
    (hchecks : s.CodecChecks fs (.unpacked l k o)) (hrows : RowsApart s.dst (.unpacked l k o) s.src.w.toNat)
    (j j' : ElementAt × Nat) (hj : elementByteIn k s.src.w.toNat s.src.h.toNat j)
    (hj' : elementByteIn k s.src.w.toNat s.src.h.toNat j')
    (heq : j.1.addr s.dst l k o + j.2 = j'.1.addr s.dst l k o + j'.2) : j = j' := by
  obtain ⟨he, hi⟩ := hj
  obtain ⟨he', hi'⟩ := hj'
  rw [element_addr_eq, element_addr_eq] at heq
  obtain ⟨hplane, hrow, hcolumn⟩ := rowByteAddr_injective (windowHolds_of_codecChecks hchecks)
    (planesApart_of_codecChecks hchecks) hrows (element_rowByteIn he hi) (element_rowByteIn he' hi') heq
  obtain ⟨hplace, hbyte⟩ := row_column_unique hi hi' hcolumn
  exact Prod.ext (element_eq_of_place hplane hrow hplace) hbyte

/-! ### The frame commands -/

/-- A port that serves both frames serves every address that PACK touches. -/
theorem packPlanOf_served {s : State} {l : Layout} {k : Kind} {o od : Order}
    (h : s.PortServes (frameAddrs s.src (.unpacked l k o) s.src.w.toNat s.src.h.toNat ++
      frameAddrs s.dst (.packed od) s.src.w.toNat s.src.h.toNat)) :
    ∀ a ∈ (packPlanOf s l k o od).touched, portAnswer s.port a = .data := by
  intro a ha
  refine h a (List.mem_append.mpr ((List.mem_append.mp ha).imp id fun hwrite => ?_))
  obtain ⟨c, hc, rfl⟩ := List.mem_map.mp hwrite
  exact packCells_addr hc

theorem unpackPlanOf_served {s : State} {l : Layout} {k : Kind} {o os : Order}
    (h : s.PortServes (frameAddrs s.src (.packed os) s.src.w.toNat s.src.h.toNat ++
      frameAddrs s.dst (.unpacked l k o) s.src.w.toNat s.src.h.toNat)) :
    ∀ a ∈ (unpackPlanOf s l k o os).touched, portAnswer s.port a = .data := by
  intro a ha
  refine h a (List.mem_append.mpr ((List.mem_append.mp ha).imp id fun hwrite => ?_))
  obtain ⟨c, hc, rfl⟩ := List.mem_map.mp hwrite
  exact unpackCells_addr hc

/-- The memory that a PACK leaves that completes with OK. -/
def packedMemory (s : State) (l : Layout) (k : Kind) (o od : Order) : Memory :=
  s.mem.writeAll (settledWrites s.draws (packPlanOf s l k o od).cells)

/-- The memory that an UNPACK leaves that completes with OK. -/
def unpackedMemory (s : State) (l : Layout) (k : Kind) (o os : Order) : Memory :=
  s.mem.writeAll (settledWrites s.draws (unpackPlanOf s l k o os).cells)

/-- Where the rows of the packed frame stand apart, each of its bytes is the one of its block. -/
theorem packedMemory_read {s : State} {l : Layout} {k : Kind} {o od : Order}
    (hchecks : s.CodecChecks (.unpacked l k o) (.packed od)) (hwf : s.mem.wf = true)
    (hrows : RowsApart s.dst (.packed od) s.src.w.toNat) {j : PackedByte}
    (hj : j.inFrame s.src.w.toNat s.src.h.toNat) :
    (packedMemory s l k o od).read (j.addr s.dst) = j.content s l k o od :=
  (Option.some.inj ((packCells_are s l k o od).read_own hwf s.draws (packedByte_addr_injective hchecks hrows) hj
    rfl)).symm

/-- Where the rows of the unpacked frame stand apart, each of its bytes is the one of its element. -/
theorem unpackedMemory_read {s : State} {l : Layout} {k : Kind} {o os : Order}
    (hchecks : s.CodecChecks (.packed os) (.unpacked l k o)) (hwf : s.mem.wf = true)
    (hrows : RowsApart s.dst (.unpacked l k o) s.src.w.toNat) {e : ElementAt} {i : Nat}
    (he : e.inFrame s.src.w.toNat s.src.h.toNat) (hi : i < k.size) :
    (unpackedImage s k os e)[i]? = some ((unpackedMemory s l k o os).read (e.addr s.dst l k o + i)) :=
  (unpackCells_are (width_of_packedSrc hchecks)).read_own hwf s.draws
    (elementByte_addr_injective hchecks hrows) (j := (e, i)) ⟨he, hi⟩
    (unpackedImage_isSome s os e hi)

/-- Settles O48: the cells are the bytes of the blocks, and settled writes put at an address one of its cells. -/
theorem packWritesThePackedFrame : Obligations.PackWritesThePackedFrame := by
  intro s l k o od hchecks hdevice hwf hport target
  have hcells := packCells_are s l k o od
  refine ⟨packedMemory s l k o od, ?_, fun a ha => ?_, fun p r b i hj => ?_, fun hrows p r b i hj => ?_⟩
  · rw [exec_pack_of_plan (packPlan_of_checks hchecks),
      runCodec_of_served (p := packPlanOf s l k o od) hdevice (packPlanOf_served hport)]
    rfl
  · exact hcells.read_other s.mem s.draws fun j hj => ha j.plane j.row j.block j.byte hj
  · obtain ⟨j', hj', haddr, hread⟩ := hcells.read_target hwf s.draws (j := ⟨p, r, b, i⟩) hj rfl
    exact ⟨j'.plane, j'.row, j'.block, j'.byte, hj', haddr, (Option.some.inj hread).symm⟩
  · exact packedMemory_read hchecks hwf hrows (j := ⟨p, r, b, i⟩) hj

/-- Settles O49: the cells are the bytes of the elements, and settled writes put at an address one of its cells. -/
theorem unpackWritesTheUnpackedFrame : Obligations.UnpackWritesTheUnpackedFrame := by
  intro s l k o os hchecks hdevice hwf hport target out
  have hcells := unpackCells_are (l := l) (k := k) (o := o) (os := os) (width_of_packedSrc hchecks)
  refine ⟨unpackedMemory s l k o os, ?_, fun a ha => ?_, fun e i hj => ?_, fun hrows e i hj => ?_⟩
  · rw [exec_unpack_of_plan (unpackPlan_of_checks hchecks),
      runCodec_of_served (p := unpackPlanOf s l k o os) hdevice (unpackPlanOf_served hport)]
    rfl
  · exact hcells.read_other s.mem s.draws fun j hj => ha j.1 j.2 hj
  · obtain ⟨j', hj', haddr, hread⟩ := hcells.read_target hwf s.draws (j := (e, i)) hj
      (unpackedImage_isSome s os e hj.2)
    exact ⟨j'.1, j'.2, hj', haddr, hread⟩
  · exact unpackedMemory_read hchecks hwf hrows hj.1 hj.2

/-! ### The round trip (42_codec.md R173) -/

/-- A PACK in flight that completes with OK passed its checks and wrote the packed frame. -/
theorem pack_ok {s t : State} {l : Layout} {k : Kind} {o od : Order}
    (hs : registry s.src.fmt = some (.unpacked l k o)) (hd : registry s.dst.fmt = some (.packed od))
    (h : exec .pack s = .next t) (hbusy : s.inFlight ≠ none) (hidle : t.inFlight = none) (hok : t.status.err = .ok) :
    s.CodecChecks (.unpacked l k o) (.packed od) ∧ t.dst = s.dst ∧ t.mem = packedMemory s l k o od := by
  by_cases hchecks : s.CodecChecks (.unpacked l k o) (.packed od)
  · rw [exec_pack_of_plan (packPlan_of_checks hchecks)] at h
    rw [runCodec_ok h hbusy hidle hok]
    exact ⟨hchecks, rfl, rfl⟩
  · obtain rfl := Host.Outcome.next.inj ((exec_pack_of_error (packPlan_of_badChecks hs hd hchecks)).symm.trans h)
    cases hok

/-- An UNPACK in flight that completes with OK passed its checks and wrote the unpacked frame. -/
theorem unpack_ok {s t : State} {l : Layout} {k : Kind} {o os : Order}
    (hs : registry s.src.fmt = some (.packed os)) (hd : registry s.dst.fmt = some (.unpacked l k o))
    (h : exec .unpack s = .next t) (hbusy : s.inFlight ≠ none) (hidle : t.inFlight = none)
    (hok : t.status.err = .ok) :
    s.CodecChecks (.packed os) (.unpacked l k o) ∧ t.mem = unpackedMemory s l k o os := by
  by_cases hchecks : s.CodecChecks (.packed os) (.unpacked l k o)
  · rw [exec_unpack_of_plan (unpackPlan_of_checks hchecks)] at h
    rw [runCodec_ok h hbusy hidle hok]
    exact ⟨hchecks, rfl⟩
  · obtain rfl := Host.Outcome.next.inj ((exec_unpack_of_error (unpackPlan_of_badChecks hs hd hchecks)).symm.trans h)
    cases hok

/-- The components of a luma block are the samples of its columns (42_codec.md R156). -/
theorem unpackBlock_packedBlockOf_luma (s : State) (l : Layout) (k : Kind) (o od : Order) (r b : Nat) {j : Nat}
    (hj : j < 4) :
    (unpackBlock (packedBlockOf s l k o od .p0 r b)).at j = (ElementAt.luma r (4 * b + j)).sample s l k o := by
  rw [packedBlockOf, unpackBlock_packBlock]
  match j, hj with
  | 0, _ | 1, _ | 2, _ | 3, _ => rfl

/-- The components of a chroma block are the samples of its sites, in the packed order (42_codec.md R157 (a)). -/
theorem unpackBlock_packedBlockOf_chroma (s : State) (l : Layout) (k : Kind) (o od : Order) (r b : Nat) {d : Nat}
    (hd : d < 2) (c : Comp) :
    (unpackBlock (packedBlockOf s l k o od .p1 r b)).at (2 * d + chromaPlace od c) =
      (ElementAt.chroma r (2 * b + d) c).sample s l k o := by
  cases od
  all_goals
    simp only [packedBlockOf, unpackBlock_packBlock]
    match d, hd with
    | 0, _ | 1, _ => cases c <;> rfl

/-- Memory holds the packed frame that PACK makes of the source frame. -/
def HoldsPackedFrame (m : Memory) (s : State) (l : Layout) (k : Kind) (o od : Order) : Prop :=
  ∀ j : PackedByte, j.inFrame s.src.w.toNat s.src.h.toNat → m.read (j.addr s.dst) = j.content s l k o od

theorem HoldsPackedFrame.componentsAt {m : Memory} {s : State} {l : Layout} {k : Kind} {o od : Order}
    (h : HoldsPackedFrame m s l k o od) {p : Plane} {r b : Nat} (hp : p ∈ [Plane.p0, .p1])
    (hr : r < planeLines s.src.h.toNat p) (hb : b < s.src.w.toNat / 4) :
    componentsAt m ((s.dst.plane p).addr.toNat + r * (s.dst.plane p).stride.toNat + 5 * b) =
      unpackBlock (packedBlockOf s l k o od p r b) := by
  have hread (i : Nat) (hi : i < 5) :
      m.read ((s.dst.plane p).addr.toNat + r * (s.dst.plane p).stride.toNat + 5 * b + i) =
        blockByte (packedBlockOf s l k o od p r b) i :=
    h ⟨p, r, b, i⟩ ⟨hp, hr, hb, hi⟩
  have hfirst := hread 0 (by decide)
  rw [Nat.add_zero] at hfirst
  rw [Machine.componentsAt, hfirst, hread 1 (by decide), hread 2 (by decide), hread 3 (by decide),
    hread 4 (by decide), blockOfBytes_blockByte]

/-- UNPACK of the packed frame finds at each element the sample that PACK read (42_codec.md R173). -/
theorem HoldsPackedFrame.component {s u : State} {l : Layout} {k : Kind} {o od : Order}
    (h : HoldsPackedFrame u.mem s l k o od) (hsrc : u.src = s.dst) (hw : s.src.w.toNat % 4 = 0) {e : ElementAt}
    (he : e.inFrame s.src.w.toNat s.src.h.toNat) : e.component u od = e.sample s l k o := by
  cases e with
  | luma r x =>
    obtain ⟨hr, hx⟩ := he
    have hblock := h.componentsAt (p := .p0) (r := r) (b := x / 4) (by simp) hr (by omega)
    rw [ElementAt.component, hsrc]
    refine (congrArg (fun q : Quad => q.at (x % 4)) hblock).trans ?_
    rw [unpackBlock_packedBlockOf_luma _ _ _ _ _ _ _ (by omega), Nat.div_add_mod]
  | chroma r x c =>
    obtain ⟨hr, hx⟩ := he
    have hblock := h.componentsAt (p := .p1) (r := r) (b := x / 2) (by simp) hr (by omega)
    rw [ElementAt.component, hsrc]
    refine (congrArg (fun q : Quad => q.at (2 * (x % 2) + chromaPlace od c)) hblock).trans ?_
    rw [unpackBlock_packedBlockOf_chroma _ _ _ _ _ _ _ (by omega), Nat.div_add_mod]

/-- The bytes of an element of at most 1023 come back (42_codec.md R158). -/
theorem elementImage_sampleIn {k : Kind} {u8 : Config.RoundOverflow} {e0 e1 : Byte}
    (h : k ≠ .k8 → elementValue k e0 e1 ≤ 1023) :
    elementImage k u8 (sampleIn k e0 e1) = [e0, e1].take k.size := by
  cases k with
  | k8 => simp [elementImage, sampleOut8_sampleIn, Kind.size]
  | le16 =>
    have hvalue : e0.toNat + 256 * e1.toNat ≤ 1023 := h (by decide)
    have h0 := e0.isLt
    have hlow : (e0.toNat + 256 * e1.toNat) % 1024 % 256 = e0.toNat := by omega
    have hhigh : (e0.toNat + 256 * e1.toNat) % 1024 / 256 = e1.toNat := by omega
    simp [elementImage, sampleIn_le16_toNat, hlow, hhigh, Kind.size]
  | be16 =>
    have hvalue : 256 * e0.toNat + e1.toNat ≤ 1023 := h (by decide)
    have h1 := e1.isLt
    have hlow : (256 * e0.toNat + e1.toNat) % 1024 % 256 = e1.toNat := by omega
    have hhigh : (256 * e0.toNat + e1.toNat) % 1024 / 256 = e0.toNat := by omega
    simp [elementImage, sampleIn_be16_toNat, hlow, hhigh, Kind.size]

/-- Byte i of the image of a source element's sample is byte i of the element. -/
theorem elementImage_sample {s : State} {l : Layout} {k : Kind} {o : Order} {u8 : Config.RoundOverflow} {e : ElementAt}
    {i : Nat} (hi : i < k.size)
    (h : k ≠ .k8 → elementValue k (s.mem.read (e.addr s.src l k o)) (s.mem.read (e.addr s.src l k o + 1)) ≤ 1023) :
    (elementImage k u8 (e.sample s l k o))[i]? = some (s.mem.read (e.addr s.src l k o + i)) := by
  have hle := kindSize_le k
  rw [ElementAt.sample, elementImage_sampleIn h, List.getElem?_take_of_lt hi]
  match i, hi.trans_le hle with
  | 0, _ | 1, _ => rfl

/-- An UNPACK of the packed frame of `s` leaves at each element of its destination the bytes of the source element. -/
theorem unpackedMemory_read_source {s u : State} {l : Layout} {k : Kind} {o od : Order}
    (hchecks : u.CodecChecks (.packed od) (.unpacked l k o)) (hwf : u.mem.wf = true)
    (hrows : RowsApart u.dst (.unpacked l k o) u.src.w.toNat) (hpacked : HoldsPackedFrame u.mem s l k o od)
    (hsrc : u.src = s.dst) (hw : u.src.w = s.src.w) (hh : u.src.h = s.src.h)
    (hvalues : ∀ e : ElementAt, e.inFrame s.src.w.toNat s.src.h.toNat → k ≠ .k8 →
      elementValue k (s.mem.read (e.addr s.src l k o)) (s.mem.read (e.addr s.src l k o + 1)) ≤ 1023)
    {e : ElementAt} {i : Nat} (he : e.inFrame s.src.w.toNat s.src.h.toNat) (hi : i < k.size) :
    (unpackedMemory u l k o od).read (e.addr u.dst l k o + i) = s.mem.read (e.addr s.src l k o + i) := by
  have hwidth := width_of_packedSrc hchecks
  have hread := unpackedMemory_read hchecks hwf hrows (e := e) (by rwa [hw, hh]) hi
  rw [unpackedImage, hpacked.component hsrc (hw ▸ hwidth) he, elementImage_sample hi (hvalues e he)] at hread
  exact (Option.some.inj hread).symm

/-- Settles O52: element by element, with every byte of a row a byte of an element. -/
theorem packThenUnpackRestoresTheFrame : Obligations.PackThenUnpackRestoresTheFrame := by
  intro s t u v l k o od hsfmt hdfmt hwf hvalues hpackedRows hsbusy hpack htidle htok humem husrc hudst hrows hubusy
    hunpack hvidle hvok p hp r hr c hc
  obtain ⟨hchecks, htdst, htmem⟩ := pack_ok hsfmt hdfmt hpack hsbusy htidle htok
  have husrc' : u.src = s.dst := husrc.trans htdst
  obtain ⟨huchecks, hvmem⟩ := unpack_ok (by rw [husrc', hdfmt]) (by rw [hudst, hsfmt]) hunpack hubusy hvidle hvok
  have ⟨_, _, hdw, hdh, _⟩ := hchecks
  have hw : u.src.w = s.src.w := by rw [husrc', hdw]
  have hh : u.src.h = s.src.h := by rw [husrc', hdh]
  have hmultiple := width_of_packedSrc huchecks
  rw [hw] at hmultiple
  have humem' : u.mem = packedMemory s l k o od := humem.trans htmem
  have hpacked : HoldsPackedFrame u.mem s l k o od := fun j hj => by
    rw [humem', packedMemory_read hchecks hwf hpackedRows hj]
  have huwf : u.mem.wf = true := by
    rw [humem']
    exact Memory.wf_writeAll _ hwf
  obtain ⟨e, i, he, hi, hplane, hrow, hcolumn⟩ := exists_element (by omega) ⟨hp, hr, hc⟩
  have haddr (fr : FrameRegs) : e.addr fr l k o + i = rowByteAddr fr p r c := by
    rw [element_addr_eq, hplane, hrow, hcolumn]
  have hread := unpackedMemory_read_source huchecks huwf (hw ▸ hrows) hpacked husrc' hw hh hvalues he hi
  rw [haddr, haddr, ← hvmem] at hread
  exact hread

end Sys2Proof.Proofs
end

section
/-! The control command (43_control.md R190): NOP, and the words of opcode 0 that are not NOP. -/

namespace Sys2Proof.Proofs

open Sys2Proof.Machine

theorem exec_nop (s : State) : exec .nop s = .next (s.finish .ok) :=
  complete_def s

theorem finish_ok_eq (s : State) : s.finish .ok =
    { s with inFlight := none, status := { done := true, err := .ok, streamErr := s.status.streamErr } } := rfl

/-- RSVD is checked before OPC (30_encoding.md R81). -/
theorem decode_of_rsvdField_ne_zero {w : Word} (h : rsvdField w ≠ 0) : decode w = .error .reservedBitsSet :=
  if_pos h

theorem opcField_toNat (w : Word) : (opcField w).toNat = w.toNat % 256 := by
  simp [opcField, BitVec.extractLsb'_toNat]

/-- With both fields 0 the word is that of NOP (30_encoding.md R80). -/
theorem eq_zero_of_fields {w : Word} (hrsvd : rsvdField w = 0) (hopc : w.toNat % 256 = 0) : w = 0 := by
  apply BitVec.eq_of_toNat_eq
  rw [← opcField_toNat_of_rsvdField hrsvd, opcField_toNat, hopc]
  rfl

/-- Settles O21: NOP is a completion, and of the words with opcode 0 only word 0 has RSVD = 0. -/
theorem nopOnlyCompletes : Obligations.NopOnlyCompletes := by
  refine ⟨fun s => ?_, decode_encode .nop, fun w hopc hne => ?_⟩
  · rw [exec_nop, finish_ok_eq]
  · have hrsvd : rsvdField w ≠ 0 := fun h => hne (eq_zero_of_fields h hopc)
    exact decode_of_rsvdField_ne_zero hrsvd

end Sys2Proof.Proofs
end

section
/-! Exceptions (60_exceptions.md R200 to R202): the codes with which a command completes, and what a failed check leaves
unchanged. `CommandEffect` says how a command ends but for ILLEGAL_COMMAND, which it does not rule out; that no command
completes with that code is followed through `exec` first. -/

namespace Sys2Proof.Proofs

open Sys2Proof.Machine

/-! ### ILLEGAL_COMMAND is the engine's alone (30_encoding.md R81, 60_exceptions.md R200) -/

section IllegalCommand

variable {s u : State}

/-- Completions with different codes differ, whatever was written before them. -/
theorem finish_ne_finish {e e' : ErrCode} (he : e ≠ e') : u.finish e ≠ s.finish e' :=
  fun h => he (congrArg (fun v : State => v.status.err) h)

theorem next_finish_ne {e e' : ErrCode} (he : e ≠ e') :
    (.next (u.finish e) : Host.Outcome State Fault Refusal) ≠ .next (s.finish e') :=
  fun h => finish_ne_finish he (Host.Outcome.next.inj h)

/-- A wait takes a draw (notes/assumptions/10.md); a completion alone takes none. -/
theorem finish_ne_drew (e : ErrCode) : s.finish e ≠ s.drew :=
  fun h => Nat.succ_ne_self s.draws (congrArg State.draws h).symm

theorem runFrame_ne_illegalCommand (p : FramePlan) : runFrame p s ≠ .next (s.finish .illegalCommand) := by
  intro h
  rcases runFrame_cases h with ⟨_, ht⟩ | ⟨_, ht⟩ | ⟨_, _, _, ht⟩ | ⟨_, ht⟩
  · exact finish_ne_finish (by decide) ht
  · exact finish_ne_finish (by decide) ht
  · exact finish_ne_finish (by decide) ht
  · exact finish_ne_drew _ ht

theorem runCodec_ne_illegalCommand (p : CodecPlan) : runCodec p s ≠ .next (s.finish .illegalCommand) := by
  intro h
  rcases runCodec_cases h with ⟨_, ht⟩ | ⟨_, ht⟩ | ⟨_, ht⟩
  · exact finish_ne_finish (by decide) ht
  · exact finish_ne_finish (by decide) ht
  · exact finish_ne_drew _ ht

theorem geomFile_ne_illegalCommand : exec .geomFile s ≠ .next (s.finish .illegalCommand) := by
  cases hf : shapeFormat s.cfg.fmt s.cfg.w s.cfg.h with
  | none => exact exec_geomFile_of_bad_shape hf ▸ next_finish_ne (by decide)
  | some f => exact exec_geomFile_of_shape hf ▸ next_finish_ne (by decide)

theorem geomMem_ne_illegalCommand : exec .geomMem s ≠ .next (s.finish .illegalCommand) := by
  by_cases h : ∃ f, shapeFormat s.cfg.fmt s.cfg.w s.cfg.h = some f ∧ alignsOK s.align f = true
  · obtain ⟨f, hf, hal⟩ := h
    exact exec_geomMem_of_checks hf hal ▸ next_finish_ne (by decide)
  · exact exec_geomMem_of_refused (fun f hf hal => h ⟨f, hf, hal⟩) ▸ next_finish_ne (by decide)

theorem fcount_ne_illegalCommand : exec .fcount s ≠ .next (s.finish .illegalCommand) := by
  cases hf : shapeFormat s.cfg.fmt s.cfg.w s.cfg.h with
  | none => exact exec_fcount_of_bad_shape hf ▸ next_finish_ne (by decide)
  | some f =>
    by_cases hm : markerFormatOK s.markerEn s.cfg.fmt = true
    · rw [exec_fcount_of_checks hf hm]
      split
      · exact next_finish_ne (by decide)
      · exact next_finish_ne (by decide)
    · exact exec_fcount_of_bad_marker hf hm ▸ next_finish_ne (by decide)

theorem wrframe_ne_illegalCommand : exec .wrframe s ≠ .next (s.finish .illegalCommand) := by
  cases hp : wrframePlan s with
  | ok p => exact exec_wrframe_of_plan hp ▸ runFrame_ne_illegalCommand p
  | error e =>
    have he : e ≠ .illegalCommand := by rcases wrframePlan_error hp with ⟨rfl, _⟩ | rfl <;> decide
    exact exec_wrframe_of_error hp ▸ next_finish_ne he

theorem pack_ne_illegalCommand : exec .pack s ≠ .next (s.finish .illegalCommand) := by
  cases hp : packPlan s with
  | ok p => exact exec_pack_of_plan hp ▸ runCodec_ne_illegalCommand p
  | error e =>
    have he : e ≠ .illegalCommand := by rcases packPlan_error hp with rfl | rfl <;> decide
    exact exec_pack_of_error hp ▸ next_finish_ne he

theorem unpack_ne_illegalCommand : exec .unpack s ≠ .next (s.finish .illegalCommand) := by
  cases hp : unpackPlan s with
  | ok p => exact exec_unpack_of_plan hp ▸ runCodec_ne_illegalCommand p
  | error e =>
    have he : e ≠ .illegalCommand := by rcases unpackPlan_error hp with rfl | rfl <;> decide
    exact exec_unpack_of_error hp ▸ next_finish_ne he

/-- A decoded command does not complete with ILLEGAL_COMMAND, which is for words that select no command. -/
theorem exec_ne_illegalCommand (i : Instr) : exec i s ≠ .next (s.finish .illegalCommand) := by
  cases i with
  | geomFile => exact geomFile_ne_illegalCommand
  | geomMem => exact geomMem_ne_illegalCommand
  | fcount => exact fcount_ne_illegalCommand
  | wrframe => exact wrframe_ne_illegalCommand
  | pack => exact pack_ne_illegalCommand
  | unpack => exact unpack_ne_illegalCommand
  | nop | strclr | blkpack16le | blkpack16be | blkpack8 | blkunpack16le | blkunpack16be | blkunpack8 =>
    exact next_finish_ne (e := .ok) (by decide)

end IllegalCommand

/-! ### How a command ends -/

/-- A command that gives a next state has written nothing but STATUS, or waits, or has run; one that has run completes
with OK, IO or BUS_ERROR (60_exceptions.md R201, R202). -/
theorem CommandEffect.ends {i : Instr} {s t : State} (h : CommandEffect s i t) :
    (∃ e, e.produced = true ∧ t = s.finish e) ∨ t = s.drew ∨
      ∃ (u : State) (e : ErrCode), (e = .ok ∨ e = .io ∨ e = .busError) ∧ t = u.finish e := by
  cases h with
  | finished _ hcode => exact .inl ⟨_, hcode, rfl⟩
  | waits => exact .inr (.inl rfl)
  | frameRefused => exact .inr (.inr ⟨_, _, .inr (.inl rfl), rfl⟩)
  | frameBusError => exact .inr (.inr ⟨_, _, .inr (.inr rfl), rfl⟩)
  | memoryWritten _ _ _ he => exact .inr (.inr ⟨_, _, he.imp_right .inr, rfl⟩)
  | geomFile | geomMem | fcount | frameAppended | strclr | blockPacked | blockUnpacked =>
    exact .inr (.inr ⟨_, _, .inl rfl, rfl⟩)

/-- The codes that R200 lets a command raise are those that are raised at all, but for ILLEGAL_COMMAND. -/
theorem mem_commandCodes {e : ErrCode} (hcode : e.produced = true) (he : e ≠ .illegalCommand) :
    e ∈ [.ok, .invalidArgument, .protocol, .unsupported, .io, .busError] := by
  cases e with
  | ok | invalidArgument | protocol | unsupported | io | busError => decide
  | illegalCommand => exact absurd rfl he
  | notFound | exhausted | outOfMemory => cases hcode

/-- Settles O16: each end of a command but the wait is a completion, and none has the code ILLEGAL_COMMAND. -/
theorem commandCompletesOrWaits : Obligations.CommandCompletesOrWaits := by
  intro i s t h
  rcases (exec_effect h).ends with ⟨e, hcode, rfl⟩ | rfl | ⟨u, e, he, rfl⟩
  · refine .inl ⟨rfl, rfl, mem_commandCodes hcode ?_⟩
    rintro rfl
    exact exec_ne_illegalCommand i h
  · exact .inr rfl
  · refine .inl ⟨rfl, rfl, ?_⟩
    rcases he with rfl | rfl | rfl
    all_goals simp

/-- Settles O17: a command that has run has another code, and one that waits has not ended. -/
theorem validationErrorsChangeOnlyStatus : Obligations.ValidationErrorsChangeOnlyStatus := by
  intro i s t hbusy h hidle hcode
  rcases (exec_effect h).ends with ⟨e, _, rfl⟩ | rfl | ⟨u, e, he, rfl⟩
  · exact finish_eq e rfl
  · exact absurd hidle hbusy
  · rcases he with rfl | rfl | rfl
    all_goals simp [Status.finished] at hcode

end Sys2Proof.Proofs
end

section
/-! The windows of a frame command (70_reset_and_hazards.md R240 H3, H4, H6): what it means that an address is in one or
that one covers a device, and the windows of the plan against those of the command in flight. -/

namespace Sys2Proof.Proofs

open Sys2Proof.Machine

/-! ### Addresses in windows -/

/-- The address is in the window of a plane that the format of the code has. -/
def CoveredByCode (fr : FrameRegs) (code : Word) (a : Nat) : Prop :=
  ∃ f p, registry code = some f ∧ p ∈ f.planes ∧
    (fr.plane p).addr.toNat ≤ a ∧ a < (fr.plane p).addr.toNat + (fr.plane p).len.toNat

theorem inWindows_append_iff {ws ws' : List Config.Region} {a : Nat} :
    inWindows (ws ++ ws') a = true ↔ inWindows ws a = true ∨ inWindows ws' a = true := by
  simp only [inWindows, List.any_append, Bool.or_eq_true]

theorem inWindows_windowsByCode_iff {fr : FrameRegs} {code : Word} {a : Nat} :
    inWindows (windowsByCode fr code) a = true ↔ CoveredByCode fr code a := by
  unfold windowsByCode CoveredByCode
  split
  · next hcode => simp [hcode, inWindows]
  · next f hcode => simp [hcode, inWindows, frameWindows, regionHolds, PlaneRegs.window]

/-! ### Windows over a device -/

theorem hitsDevice_iff {devices windows : List Config.Region} :
    hitsDevice devices windows = true ↔ ∃ r ∈ windows, ∃ d ∈ devices, disjointRegions r d = false := by
  simp [hitsDevice]

theorem hitsDevice_of_subset {devices ws ws' : List Config.Region} (hsub : ws ⊆ ws')
    (hclear : hitsDevice devices ws' = false) : hitsDevice devices ws = false := by
  rw [Bool.eq_false_iff, ne_eq, hitsDevice_iff] at hclear ⊢
  exact fun ⟨r, hr, hd⟩ => hclear ⟨r, hsub hr, hd⟩

/-- A window and a device region that share an address (70_reset_and_hazards.md R240 H6). -/
theorem hitsDevice_of_shared {devices windows : List Config.Region} {r d : Config.Region} {x : Nat} (hr : r ∈ windows)
    (hd : d ∈ devices) (hrx : r.start ≤ x ∧ x < r.start + r.len) (hdx : d.start ≤ x ∧ x < d.start + d.len) :
    hitsDevice devices windows = true :=
  hitsDevice_iff.mpr ⟨r, hr, d, hd, Bool.eq_false_iff.mpr fun h => disjointRegions_sound h hrx hdx⟩

theorem window_mem_frameWindows (fr : FrameRegs) {f : Format} {p : Plane} (hp : p ∈ f.planes) :
    (fr.plane p).window ∈ frameWindows fr f :=
  List.mem_map_of_mem hp

theorem frameWindows_subset (fr : FrameRegs) (f : Format) :
    frameWindows fr f ⊆ [fr.p0.window, fr.p1.window, fr.p2.window] := by
  intro r hr
  obtain ⟨p, _, rfl⟩ := List.mem_map.mp hr
  cases p
  all_goals simp [FrameRegs.plane]

/-! ### The windows of a plan -/

/-- A PACK that has a plan passed its checks (42_codec.md R170). -/
theorem checks_of_packPlan {s : State} {p : CodecPlan} (h : packPlan s = .ok p) :
    ∃ l k o od, s.CodecChecks (.unpacked l k o) (.packed od) ∧ p = packPlanOf s l k o od := by
  unfold packPlan at h
  split at h
  · next l k o od hs hd =>
    split at h
    · next hok =>
      cases h
      exact ⟨l, k, o, od, (codecFramesOK_iff hs hd).mp hok, rfl⟩
    · cases h
  all_goals cases h

/-- An UNPACK that has a plan passed its checks (42_codec.md R171). -/
theorem checks_of_unpackPlan {s : State} {p : CodecPlan} (h : unpackPlan s = .ok p) :
    ∃ l k o os, s.CodecChecks (.packed os) (.unpacked l k o) ∧ p = unpackPlanOf s l k o os := by
  unfold unpackPlan at h
  split at h
  · next os l k o hs hd =>
    split at h
    · next hok =>
      cases h
      exact ⟨l, k, o, os, (codecFramesOK_iff hs hd).mp hok, rfl⟩
    · cases h
  all_goals cases h

/-- The windows of a frame command that passes its checks in this state. -/
inductive PlannedWindows (s : State) : Instr → List Config.Region → Prop
  | wrframe {p : FramePlan} (hp : wrframePlan s = .ok p) : PlannedWindows s .wrframe p.windows
  | pack {p : CodecPlan} (hp : packPlan s = .ok p) : PlannedWindows s .pack p.windows
  | unpack {p : CodecPlan} (hp : unpackPlan s = .ok p) : PlannedWindows s .unpack p.windows

/-- Every window of a plan is the window of a plane of SRC or of DST. -/
theorem PlannedWindows.subset {s : State} {i : Instr} {ws : List Config.Region} (h : PlannedWindows s i ws) :
    ws ⊆ [s.src.p0.window, s.src.p1.window, s.src.p2.window, s.dst.p0.window, s.dst.p1.window, s.dst.p2.window] := by
  have hboth (fs fd : Format) : frameWindows s.src fs ++ frameWindows s.dst fd ⊆
      [s.src.p0.window, s.src.p1.window, s.src.p2.window] ++ [s.dst.p0.window, s.dst.p1.window, s.dst.p2.window] :=
    List.append_subset.mpr ⟨List.subset_append_of_subset_left _ (frameWindows_subset _ fs),
      List.subset_append_of_subset_right _ (frameWindows_subset _ fd)⟩
  cases h with
  | wrframe hp =>
    obtain ⟨f, hchecks⟩ := checks_of_wrframePlan hp
    obtain rfl := Except.ok.inj ((wrframePlan_of_checks hchecks).symm.trans hp)
    exact List.Subset.trans (List.subset_append_left _ (frameWindows s.dst f)) (hboth f f)
  | pack hp =>
    obtain ⟨l, k, o, od, _, rfl⟩ := checks_of_packPlan hp
    exact hboth _ _
  | unpack hp =>
    obtain ⟨l, k, o, os, _, rfl⟩ := checks_of_unpackPlan hp
    exact hboth _ _

theorem windowsByCode_of_registry (fr : FrameRegs) {code : Word} {f : Format} (h : registry code = some f) :
    windowsByCode fr code = frameWindows fr f := by
  simp [windowsByCode, h]

theorem runningWindows_of_wrframe {s : State} (h : runningCommand s = some .wrframe) :
    runningSrcWindows s = windowsByCode s.src s.cfg.fmt ∧ runningDstWindows s = [] := by
  simp [runningSrcWindows, runningDstWindows, h]

theorem runningWindows_of_codec {s : State} (h : runningCommand s = some .pack ∨ runningCommand s = some .unpack) :
    runningSrcWindows s = windowsByCode s.src s.src.fmt ∧ runningDstWindows s = windowsByCode s.dst s.dst.fmt := by
  rcases h with h | h
  all_goals simp [runningSrcWindows, runningDstWindows, h]

/-- The windows that the model keeps for the command in flight (notes/assumptions/14.md) are those of its plan. -/
theorem PlannedWindows.eq_running {s : State} {i : Instr} {ws : List Config.Region} (h : PlannedWindows s i ws)
    (hi : runningCommand s = some i) : ws = runningSrcWindows s ++ runningDstWindows s := by
  cases h with
  | wrframe hp =>
    obtain ⟨f, hchecks⟩ := checks_of_wrframePlan hp
    obtain rfl := Except.ok.inj ((wrframePlan_of_checks hchecks).symm.trans hp)
    obtain ⟨_, ⟨hf, _⟩, _⟩ := hchecks
    obtain ⟨hsrc, hdst⟩ := runningWindows_of_wrframe hi
    rw [hsrc, hdst, windowsByCode_of_registry _ hf, List.append_nil]
    rfl
  | pack hp =>
    obtain ⟨l, k, o, od, hchecks, rfl⟩ := checks_of_packPlan hp
    obtain ⟨hs, hd⟩ := codecChecks_registry hchecks
    obtain ⟨hsrc, hdst⟩ := runningWindows_of_codec (.inl hi)
    rw [hsrc, hdst, windowsByCode_of_registry _ hs, windowsByCode_of_registry _ hd]
    rfl
  | unpack hp =>
    obtain ⟨l, k, o, os, hchecks, rfl⟩ := checks_of_unpackPlan hp
    obtain ⟨hs, hd⟩ := codecChecks_registry hchecks
    obtain ⟨hsrc, hdst⟩ := runningWindows_of_codec (.inr hi)
    rw [hsrc, hdst, windowsByCode_of_registry _ hs, windowsByCode_of_registry _ hd]
    rfl

end Sys2Proof.Proofs
end

section
/-! The duties of the host while BUSY = 1 (70_reset_and_hazards.md R240 H1 to H5): the register bus, host memory and the
stream with a command in flight. -/

namespace Sys2Proof.Proofs

open Sys2Proof.Machine

/-! ### The register bus (R240 H1, H2) -/

section RegisterReads

variable {s : State} {off : Nat} {r : Reg}

theorem regReadMove_of_readable (hreg : regAt off = some r) (hr : readableWhileBusy r = true) :
    regReadMove (s.params.regBase + off) 8 s = .next (s.withSeen (.word (readReg r s))) := by
  simp [regReadMove, windowOffset_base_add (lt_of_regAt hreg), accessOK_iff.mpr ⟨rfl, aligned_of_regAt hreg⟩, hreg, hr]

theorem regReadMove_of_busy (hreg : regAt off = some r) (hr : readableWhileBusy r = false) (hbusy : s.inFlight ≠ none) :
    regReadMove (s.params.regBase + off) 8 s = .next (s.withSeen (.word (Config.drawWord s.draws))).drew := by
  simp [regReadMove, windowOffset_base_add (lt_of_regAt hreg), accessOK_iff.mpr ⟨rfl, aligned_of_regAt hreg⟩, hreg, hr,
    State.busy, Option.isSome_iff_ne_none.mpr hbusy]

end RegisterReads

theorem readableWhileBusy_iff {r : Reg} : readableWhileBusy r = true ↔ r = .status ∨ r = .id := by
  simp [readableWhileBusy]

/-- Settles O10: a write of a register and a read of one that is not readable meet BUSY = 1. -/
theorem registerDutiesWhileBusy : Obligations.RegisterDutiesWhileBusy := by
  intro s es off r v hbusy hreg
  have hbusy' : (s.withEvents es).inFlight ≠ none := hbusy
  refine ⟨regWriteMove_of_busy (s := s.withEvents es) v hreg hbusy', fun hr => ?_, fun hstatus hid => ?_⟩
  · have hread : step { s with events := .regRead (s.params.regBase + off) 8 :: es } =
        .next ((s.withEvents es).withSeen (.word (readReg r (s.withEvents es)))) :=
      regReadMove_of_readable (s := s.withEvents es) hreg (readableWhileBusy_iff.mpr hr)
    rw [hread, readReg_withEvents]
    rfl
  · have hr : readableWhileBusy r = false :=
      Bool.eq_false_iff.mpr fun h => (readableWhileBusy_iff.mp h).elim hstatus hid
    exact regReadMove_of_busy (s := s.withEvents es) hreg hr hbusy'

/-! ### Host memory and the stream (R240 H3 to H5) -/

section Accesses

variable {s : State} {a : Nat}

theorem memWriteMove_of_window (b : Byte) (ha : a < 2 ^ s.params.addrW)
    (hw : inWindows (runningSrcWindows s ++ runningDstWindows s) a = true) :
    memWriteMove a b s = .fault .windowWriteWhileBusy := by
  simp [memWriteMove, ha, hw]

theorem memReadMove_of_window (ha : a < 2 ^ s.params.addrW) (hw : inWindows (runningDstWindows s) a = true) :
    memReadMove a s = .next (s.withSeen (.byte (Config.drawByte s.draws))).drew := by
  simp [memReadMove, ha, hw]

theorem streamMoves_of_frame (bs : List Byte) (n : Nat) (hframe : runningCommand s = some .wrframe) :
    streamAppendMove bs s = .fault .streamWriteDuringFrame ∧
      streamTruncateMove n s = .fault .streamWriteDuringFrame := by
  simp [streamAppendMove, streamTruncateMove, hframe]

end Accesses

/-- Settles O11: an address is in a running window exactly where a plane of the format covers it. -/
theorem memoryAndStreamDutiesWhileBusy : Obligations.MemoryAndStreamDutiesWhileBusy := by
  intro s es a b bs n ha covered s'
  have hcovered (fr : FrameRegs) (code : Word) : inWindows (windowsByCode fr code) a = true ↔ covered fr code :=
    inWindows_windowsByCode_iff
  refine ⟨fun hflight => ?_, fun hflight => ?_⟩
  · have hrun : runningCommand s' = some .pack ∨ runningCommand s' = some .unpack :=
      hflight.imp runningCommand_eq_some.mpr runningCommand_eq_some.mpr
    obtain ⟨hsrc, hdst⟩ := runningWindows_of_codec hrun
    have hwrite : inWindows (runningSrcWindows s' ++ runningDstWindows s') a = true ↔
        covered s.src s.src.fmt ∨ covered s.dst s.dst.fmt := by
      rw [inWindows_append_iff, hsrc, hdst, hcovered, hcovered]
    have hread : inWindows (runningDstWindows s') a = true ↔ covered s.dst s.dst.fmt := by
      rw [hdst, hcovered]
    have hframe : runningCommand s' ≠ some .wrframe := by
      rcases hrun with h | h
      all_goals simp [h]
    have hbusy : s'.inFlight ≠ none := by
      rcases hflight with h | h
      all_goals simp [s', h]
    obtain ⟨happend, htruncate⟩ := streamMoves_of_no_frame (n := n) bs hframe
    exact ⟨fun h => memWriteMove_of_window b ha (hwrite.mpr h),
      fun hns hnd => memWriteMove_of_no_window b ha (Bool.eq_false_iff.mpr fun h => (hwrite.mp h).elim hns hnd),
      fun h => memReadMove_of_window ha (hread.mpr h),
      fun h => memReadMove_of_no_window ha (Bool.eq_false_iff.mpr (mt hread.mp h)),
      streamReadMove_of_busy hbusy, happend, htruncate⟩
  · have hrun : runningCommand s' = some .wrframe := runningCommand_eq_some.mpr hflight
    obtain ⟨hsrc, hdst⟩ := runningWindows_of_wrframe hrun
    have hwrite : inWindows (runningSrcWindows s' ++ runningDstWindows s') a = true ↔ covered s.src s.cfg.fmt := by
      rw [hsrc, hdst, List.append_nil, hcovered]
    have hread : inWindows (runningDstWindows s') a = false := by
      rw [hdst]
      rfl
    have hbusy : s'.inFlight ≠ none := by simp [s', hflight]
    obtain ⟨happend, htruncate⟩ := streamMoves_of_frame bs n hrun
    exact ⟨fun h => memWriteMove_of_window b ha (hwrite.mpr h),
      fun h => memWriteMove_of_no_window b ha (Bool.eq_false_iff.mpr (mt hwrite.mp h)),
      memReadMove_of_no_window ha hread, streamReadMove_of_busy hbusy, happend, htruncate⟩

end Sys2Proof.Proofs
end

section
/-! How a command ends (70_reset_and_hazards.md R240 H6 to H8, R246): a frame command whose windows cover a device faults,
and every other command completes, or waits for an answer of the port or the sink. -/

namespace Sys2Proof.Proofs

open Sys2Proof.Machine

/-! ### The fault on a device window (R240 H6) -/

theorem exec_of_device {s : State} {i : Instr} {ws : List Config.Region} (h : PlannedWindows s i ws)
    (hdevice : hitsDevice s.params.devices ws = true) : exec i s = .fault .deviceWindow := by
  cases h with
  | wrframe hp => rw [exec_wrframe_of_plan hp, runFrame, if_pos hdevice]
  | pack hp => rw [exec_pack_of_plan hp, runCodec, if_pos hdevice]
  | unpack hp => rw [exec_unpack_of_plan hp, runCodec, if_pos hdevice]

/-- Settles O13: the window that shares the address with the device is one of the plan. -/
theorem deviceWindowFaults : Obligations.DeviceWindowFaults := by
  intro s d x hd hlo hhi covered
  have hhit {fr : FrameRegs} {f : Format} {ws : List Config.Region} (hsub : frameWindows fr f ⊆ ws)
      (hcov : covered fr f) : hitsDevice s.params.devices ws = true := by
    obtain ⟨p, hp, hplo, hphi⟩ := hcov
    exact hitsDevice_of_shared (hsub (window_mem_frameWindows fr hp)) hd ⟨hplo, hphi⟩ ⟨hlo, hhi⟩
  refine ⟨fun f hchecks hcov => ?_, fun l k o od => ⟨fun hchecks hcov => ?_, fun hchecks hcov => ?_⟩⟩
  · exact exec_of_device (.wrframe (wrframePlan_of_checks hchecks)) (hhit (List.Subset.refl _) hcov)
  · exact exec_of_device (.pack (packPlan_of_checks hchecks))
      (hcov.elim (hhit (List.subset_append_left _ _)) (hhit (List.subset_append_right _ _)))
  · exact exec_of_device (.unpack (unpackPlan_of_checks hchecks))
      (hcov.elim (hhit (List.subset_append_left _ _)) (hhit (List.subset_append_right _ _)))

/-! ### Completion (R246) -/

/-- An answer other than acceptance that no byte is given is not given from any byte on: past its answers the sink
accepts. -/
theorem sinkAnswer_drop_ne {sink : List SinkAnswer} {x : SinkAnswer} (hx : x ≠ .accept) (h : ∀ y ∈ sink, y ≠ x)
    (n : Nat) : sinkAnswer (sink.drop n) ≠ x := by
  cases hd : sink.drop n with
  | nil => exact hx.symm
  | cons y ys => exact h y (List.mem_of_mem_drop (hd ▸ List.mem_cons_self))

theorem unanswered_of_answered {s : State} (h : s.Answered) (p : FramePlan) : p.unanswered s = false := by
  obtain ⟨hport, hsink⟩ := h
  have hreads : (p.addrs.any fun a => portAnswer s.port a == .silent) = false := by
    simpa using fun a _ => hport a
  simp [FramePlan.unanswered, hreads, sinkAnswer_drop_ne (by decide) hsink]

/-- The command completes in this state, with some code and after some writes. -/
def Completes (i : Instr) (s : State) : Prop := ∃ (u : State) (e : ErrCode), exec i s = .next (u.finish e)

/-- The command waits in this state for an answer that the port or the sink does not give (notes/assumptions/10.md). -/
def Waits (i : Instr) (s : State) : Prop := ¬s.Answered ∧ exec i s = .next s.drew

section Ends

variable {s : State}

theorem geomFile_completes : Completes .geomFile s := by
  cases hf : shapeFormat s.cfg.fmt s.cfg.w s.cfg.h with
  | none => exact ⟨_, _, exec_geomFile_of_bad_shape hf⟩
  | some f => exact ⟨_, _, exec_geomFile_of_shape hf⟩

theorem geomMem_completes : Completes .geomMem s := by
  by_cases h : ∃ f, shapeFormat s.cfg.fmt s.cfg.w s.cfg.h = some f ∧ alignsOK s.align f = true
  · obtain ⟨f, hf, hal⟩ := h
    exact ⟨_, _, exec_geomMem_of_checks hf hal⟩
  · exact ⟨_, _, exec_geomMem_of_refused fun f hf hal => h ⟨f, hf, hal⟩⟩

theorem fcount_completes : Completes .fcount s := by
  cases hf : shapeFormat s.cfg.fmt s.cfg.w s.cfg.h with
  | none => exact ⟨_, _, exec_fcount_of_bad_shape hf⟩
  | some f =>
    by_cases hm : markerFormatOK s.markerEn s.cfg.fmt = true
    · unfold Completes
      rw [exec_fcount_of_checks hf hm]
      split
      · exact ⟨_, _, rfl⟩
      · exact ⟨_, _, rfl⟩
    · exact ⟨_, _, exec_fcount_of_bad_marker hf hm⟩

theorem runCodec_of_clear {p : CodecPlan} (hclear : hitsDevice s.params.devices p.windows = false) :
    ∃ t, runCodec p s = .next t := by
  rw [runCodec, hclear]
  rcases drawEarlyEnd s.draws (p.earlyEnds s.port) with _ | _ | _
  all_goals exact ⟨_, rfl⟩

theorem wrframe_ends {p : FramePlan} (hp : wrframePlan s = .ok p)
    (hclear : hitsDevice s.params.devices p.windows = false) : Completes .wrframe s ∨ Waits .wrframe s := by
  have hexec := exec_wrframe_of_plan hp
  have hrun := runFrame_eq p s
  rw [hclear, if_neg Bool.false_ne_true] at hrun
  rcases runFrame_cases hrun with ⟨_, ht⟩ | ⟨_, ht⟩ | ⟨_, _, _, ht⟩ | ⟨hsilent, ht⟩
  · exact .inl ⟨_, _, by rw [hexec, hrun, ht]⟩
  · exact .inl ⟨_, _, by rw [hexec, hrun, ht]⟩
  · exact .inl ⟨_, _, by rw [hexec, hrun, ht]⟩
  · refine .inr ⟨fun h => ?_, by rw [hexec, hrun, ht]⟩
    rw [unanswered_of_answered h] at hsilent
    cases hsilent

theorem codec_ends {i : Instr} {p : CodecPlan} (hexec : exec i s = runCodec p s)
    (hclear : hitsDevice s.params.devices p.windows = false) : Completes i s ∨ Waits i s := by
  obtain ⟨t, hrun⟩ := runCodec_of_clear hclear
  rcases runCodec_cases hrun with ⟨_, ht⟩ | ⟨_, ht⟩ | ⟨⟨a, _, ha⟩, ht⟩
  · exact .inl ⟨_, _, by rw [hexec, hrun, ht]⟩
  · exact .inl ⟨_, _, by rw [hexec, hrun, ht]⟩
  · exact .inr ⟨fun ⟨hport, _⟩ => hport a ha, by rw [hexec, hrun, ht]⟩

/-- A command whose windows, if it has any, are off the devices completes or waits. -/
theorem exec_ends {i : Instr} (hclear : ∀ ws, PlannedWindows s i ws → hitsDevice s.params.devices ws = false) :
    Completes i s ∨ Waits i s := by
  cases i with
  | geomFile => exact .inl geomFile_completes
  | geomMem => exact .inl geomMem_completes
  | fcount => exact .inl fcount_completes
  | wrframe =>
    cases hp : wrframePlan s with
    | error e => exact .inl ⟨_, _, exec_wrframe_of_error hp⟩
    | ok p => exact wrframe_ends hp (hclear _ (.wrframe hp))
  | pack =>
    cases hp : packPlan s with
    | error e => exact .inl ⟨_, _, exec_pack_of_error hp⟩
    | ok p => exact codec_ends (exec_pack_of_plan hp) (hclear _ (.pack hp))
  | unpack =>
    cases hp : unpackPlan s with
    | error e => exact .inl ⟨_, _, exec_unpack_of_error hp⟩
    | ok p => exact codec_ends (exec_unpack_of_plan hp) (hclear _ (.unpack hp))
  | nop | strclr | blkpack16le | blkpack16be | blkpack8 | blkunpack16le | blkunpack16be | blkunpack8 =>
    exact .inl ⟨_, .ok, rfl⟩

end Ends

/-- Settles O19: with no device under a window and every answer given neither the fault nor the wait is left. -/
theorem commandsCompleteWhenAnswered : Obligations.CommandsCompleteWhenAnswered := by
  intro i s hanswered hwindows
  rcases exec_ends (i := i) fun ws hws => hitsDevice_of_subset hws.subset hwindows with ⟨u, e, hexec⟩ | ⟨hsilent, _⟩
  · exact ⟨_, hexec, rfl, rfl⟩
  · exact absurd hanswered hsilent

/-! ### Waiting (R246) -/

theorem earlyEnds_of_silence {p : FramePlan} {s : State} (herror : p.hasError s = false) (hrefused : p.refused s = false)
    (hsilent : p.unanswered s = true) : p.earlyEnds s = [.hang] := by
  simp [FramePlan.earlyEnds, herror, hrefused, hsilent]

theorem exec_wrframe_of_silence {s : State} {f : Format} (hchecks : s.FrameChecks f)
    (hdevice : hitsDevice s.params.devices (frameWindows s.src f) = false)
    (hends : (framePlanOf s f).earlyEnds s = [.hang]) : exec .wrframe s = .next s.drew := by
  rw [exec_wrframe_eq hchecks hdevice, hends, drawEarlyEnd_single, frameEndState]

/-- The answers for the bytes that the sink accepts first count one by one. -/
theorem acceptCount_of_accepted {sink : List SinkAnswer} {n : Nat} (h : ∀ i, i < n → sink[i]? = some .accept) (m : Nat) :
    acceptCount sink (n + m) = n + acceptCount (sink.drop n) m := by
  induction n generalizing sink with
  | zero => simp
  | succ n ih =>
    cases sink with
    | nil => simpa using h 0 (Nat.succ_pos n)
    | cons x rest =>
      obtain rfl : x = .accept := by simpa using h 0 (Nat.succ_pos n)
      have hrest := ih (sink := rest) fun i hi => by simpa using h (i + 1) (by omega)
      rw [Nat.add_right_comm, acceptCount, hrest, List.drop_succ_cons]
      omega

theorem acceptCount_of_stop {sink : List SinkAnswer} (h : sinkAnswer sink ≠ .accept) (m : Nat) :
    acceptCount sink m = 0 := by
  cases sink with
  | nil => exact absurd rfl h
  | cons x rest =>
    cases m with
    | zero => cases x <;> rfl
    | succ m =>
      cases x with
      | accept => exact absurd rfl h
      | refuse | silent => rfl

/-- A WRFRAME with a read that is never answered, where the port and the sink give no other bad answer. -/
theorem earlyEnds_of_silent_read {p : FramePlan} {s : State} (hport : ∀ a ∈ p.addrs, portAnswer s.port a ≠ .error)
    (hsilent : ∃ a ∈ p.addrs, portAnswer s.port a = .silent) (hsink : ∀ x ∈ s.sink, x ≠ .refuse) :
    p.earlyEnds s = [.hang] := by
  refine earlyEnds_of_silence ?_ ?_ ?_
  · simpa [FramePlan.hasError] using hport
  · simp [FramePlan.refused, sinkAnswer_drop_ne (by decide) hsink]
  · simp [FramePlan.unanswered, hsilent]

/-- A WRFRAME whose reads are served and whose byte `n` the sink never answers. -/
theorem earlyEnds_of_silent_byte {p : FramePlan} {s : State} {n : Nat}
    (hport : ∀ a ∈ p.addrs, portAnswer s.port a = .data) (hn : n < p.readable s.port)
    (haccept : ∀ i, i < n → s.sink[i]? = some .accept) (hsilent : s.sink[n]? = some .silent) :
    p.earlyEnds s = [.hang] := by
  have hanswer : sinkAnswer (s.sink.drop n) = .silent := sinkAnswer_drop hsilent
  have hemit : p.emittable s = n := by
    obtain ⟨m, hm⟩ := Nat.exists_eq_add_of_lt hn
    rw [FramePlan.emittable, hm, Nat.add_assoc, acceptCount_of_accepted haccept,
      acceptCount_of_stop (by simp [hanswer]), Nat.add_zero]
  refine earlyEnds_of_silence (hasError_of_served hport) ?_ ?_
  · simp [FramePlan.refused, hemit, hanswer]
  · simp [FramePlan.unanswered, hemit, hanswer, hn]

/-- A PACK or UNPACK with an access that is never answered, and none answered with an error. -/
theorem runCodec_of_silence {p : CodecPlan} {s : State} (hdevice : hitsDevice s.params.devices p.windows = false)
    (hport : ∀ a, portAnswer s.port a ≠ .error) (hsilent : ∃ a ∈ p.touched, portAnswer s.port a = .silent) :
    runCodec p s = .next s.drew := by
  have herror : p.touched.any (fun a => portAnswer s.port a == .error) = false := by simpa using fun a _ => hport a
  have hhas : p.touched.any (fun a => portAnswer s.port a == .silent) = true := by simpa using hsilent
  have hends : p.earlyEnds s.port = [.hang] := by simp [CodecPlan.earlyEnds, herror, hhas]
  rw [runCodec, hends, hdevice]
  rfl

/-! ### The destination bytes are touched (42_codec.md R172) -/

theorem CellsAre.addr_mem {ι : Type} {cells : List Host.Cell} {target : ι → Prop} {addr : ι → Nat}
    {byte : ι → Option Byte} (h : CellsAre cells target addr byte) {j : ι} (hj : target j) (hbyte : (byte j).isSome) :
    addr j ∈ cells.map Prod.fst := by
  obtain ⟨b, hb⟩ := Option.isSome_iff_exists.mp hbyte
  exact List.mem_map.mpr ⟨(addr j, b), (h _ _).mpr ⟨j, hj, rfl, hb⟩, rfl⟩

/-- PACK writes every byte of the rows of its destination. -/
theorem packPlanOf_writes {s : State} {l : Layout} {k : Kind} {o od : Order} {a : Nat}
    (ha : a ∈ frameAddrs s.dst (.packed od) s.src.w.toNat s.src.h.toNat) :
    a ∈ (packPlanOf s l k o od).cells.map Prod.fst := by
  obtain ⟨p, hp, r, hr, c, hc, rfl⟩ := mem_frameAddrs.mp ha
  have hj : PackedByte.inFrame s.src.w.toNat s.src.h.toNat ⟨p, r, c / 5, c % 5⟩ := by
    have hblock : c / 5 < s.src.w.toNat / 4 := (Nat.div_lt_iff_lt_mul (by decide)).mpr hc
    exact ⟨hp, hr, hblock, Nat.mod_lt c (by decide)⟩
  have haddr : PackedByte.addr s.dst ⟨p, r, c / 5, c % 5⟩ =
      (s.dst.plane p).addr.toNat + r * (s.dst.plane p).stride.toNat + c := by
    rw [PackedByte.addr_eq_rowByteAddr, rowByteAddr, Nat.div_add_mod]
  exact haddr ▸ (packCells_are s l k o od).addr_mem hj rfl

/-- UNPACK writes every byte of the rows of its destination. -/
theorem unpackPlanOf_writes {s : State} {l : Layout} {k : Kind} {o os : Order} {a : Nat} (hw : s.src.w.toNat % 4 = 0)
    (ha : a ∈ frameAddrs s.dst (.unpacked l k o) s.src.w.toNat s.src.h.toNat) :
    a ∈ (unpackPlanOf s l k o os).cells.map Prod.fst := by
  obtain ⟨p, hp, r, hr, c, hc, rfl⟩ := mem_frameAddrs.mp ha
  obtain ⟨e, i, he, hi, hplane, hrow, hcolumn⟩ := exists_element (by omega) ⟨hp, hr, hc⟩
  have haddr : e.addr s.dst l k o + i = (s.dst.plane p).addr.toNat + r * (s.dst.plane p).stride.toNat + c := by
    rw [element_addr_eq, hplane, hrow, hcolumn, rowByteAddr]
  exact haddr ▸ (unpackCells_are hw).addr_mem (j := (e, i)) ⟨he, hi⟩ (unpackedImage_isSome s os e hi)

/-- Settles O20: the wait is the one early end; every byte of a destination row is one that the codec writes. -/
theorem unansweredAccessWaits : Obligations.UnansweredAccessWaits := by
  refine ⟨fun s f hchecks hdevice => ⟨fun hport hsilent hsink => ?_, fun n hport hn haccept hsilent => ?_⟩,
    fun s l k o od hport => ⟨fun hchecks hdevice ⟨a, ha, hsilent⟩ => ?_, fun hchecks hdevice ⟨a, ha, hsilent⟩ => ?_⟩⟩
  · exact exec_wrframe_of_silence hchecks hdevice (earlyEnds_of_silent_read hport hsilent hsink)
  · rw [← readable_framePlanOf hport] at hn
    exact exec_wrframe_of_silence hchecks hdevice (earlyEnds_of_silent_byte hport hn haccept hsilent)
  · have htouched : a ∈ (packPlanOf s l k o od).touched :=
      List.mem_append.mpr ((List.mem_append.mp ha).imp id packPlanOf_writes)
    rw [exec_pack_of_plan (packPlan_of_checks hchecks)]
    exact runCodec_of_silence hdevice hport ⟨a, htouched, hsilent⟩
  · have htouched : a ∈ (unpackPlanOf s l k o od).touched :=
      List.mem_append.mpr ((List.mem_append.mp ha).imp id (unpackPlanOf_writes (width_of_packedSrc hchecks)))
    rw [exec_unpack_of_plan (unpackPlan_of_checks hchecks)]
    exact runCodec_of_silence hdevice hport ⟨a, htouched, hsilent⟩

end Sys2Proof.Proofs
end

section
/-! Reset (70_reset_and_hazards.md R230, R231): the reset values, what an abandoned command leaves, and that a machine
whose environment keeps its duties never stops (R240). -/

namespace Sys2Proof.Proofs

open Sys2Proof.Machine

/-! ### The reset values (R230) -/

/-- Settles O54: the machine after reset is a block that was reset, with nothing listed in memory. -/
theorem resetMeetsInvariants : Obligations.ResetMeetsInvariants :=
  ⟨blockReset_statusLegal State.reset, blockReset_reservedBitsZero State.reset, ⟨rfl, fun _ hc => nomatch hc⟩,
    blockReset_geometryLegal State.reset, blockReset_frameCountLegal State.reset⟩

theorem readReg_blockReset (r : Reg) (s : State) :
    readReg r s.blockReset = if r = .id then Config.idValue else 0 := by
  cases r with
  | alignStride p | alignLines p | alignSize p | geomRowBytes p | geomLines p | geomStride p | geomSize p | srcAddr p
  | srcStride p | srcLen p | dstAddr p | dstStride p | dstLen p =>
    cases p
    all_goals rfl
  | status => exact statusWord_eq_ofNat s.blockReset
  | _ => rfl

/-! ### What a reset does with the command in flight (R231) -/

/-- The plan is that of the PACK or UNPACK in flight. -/
def IsRunningCodecPlan (s : State) (p : CodecPlan) : Prop :=
  runningCommand s = some .pack ∧ packPlan s = .ok p ∨ runningCommand s = some .unpack ∧ unpackPlan s = .ok p

theorem resetMove_of_framePlan {s : State} {p : FramePlan} (hi : runningCommand s = some .wrframe)
    (hp : wrframePlan s = .ok p) : resetMove s = abandonFrame p s := by
  simp [resetMove, hi, hp]

/-- A reset abandons a frame command that passed its checks, and of any other command nothing is left. -/
theorem resetMove_eq (s : State) :
    resetMove s = .next s.blockReset ∨
    (∃ p, runningCommand s = some .wrframe ∧ wrframePlan s = .ok p ∧ resetMove s = abandonFrame p s) ∨
    ∃ p, IsRunningCodecPlan s p ∧ resetMove s = abandonCodec p s := by
  unfold resetMove
  split
  · next hi =>
    split
    · exact .inl rfl
    · next p hp => exact .inr (.inl ⟨p, hi, hp, rfl⟩)
  · next hi =>
    split
    · exact .inl rfl
    · next p hp => exact .inr (.inr ⟨p, .inl ⟨hi, hp⟩, rfl⟩)
  · next hi =>
    split
    · exact .inl rfl
    · next p hp => exact .inr (.inr ⟨p, .inr ⟨hi, hp⟩, rfl⟩)
  all_goals exact .inl rfl

theorem resetMove_of_idle {s : State} (h : s.inFlight = none) : resetMove s = .next s.blockReset := by
  have hnone : runningCommand s = none := by simp [runningCommand, h]
  simp [resetMove, hnone]

/-- Every answer of a reset is a block at its reset values. -/
theorem blockReset_of_resetMove {s t : State} (h : resetMove s = .next t) : ∃ u : State, t = u.blockReset := by
  rcases resetMove_cases h with rfl | ⟨_, _, _, _, rfl⟩ | ⟨_, _, rfl⟩
  all_goals exact ⟨_, rfl⟩

/-- Settles O14: what a reset leaves is a block at its reset values, whatever was in flight. -/
theorem resetRestoresRegisters : Obligations.ResetRestoresRegisters := by
  refine fun s es => ⟨fun t h => ?_, fun hidle => ?_⟩
  · obtain ⟨u, rfl⟩ := blockReset_of_resetMove (s := s.withEvents es) h
    exact ⟨fun r => readReg_blockReset r u, rfl, rfl⟩
  · exact ⟨_, resetMove_of_idle (s := s.withEvents es) hidle, rfl, rfl⟩

theorem abandonFrame_eq_next {p : FramePlan} {s t : State} (h : abandonFrame p s = .next t) :
    t.mem = s.mem ∧ t.stream = s.stream ++ (p.bytes s.mem).take (drawnPrefix s.draws (p.bytes s.mem).length) := by
  unfold abandonFrame at h
  split at h
  · cases h
  · cases h
    exact ⟨rfl, rfl⟩

theorem abandonCodec_eq_next {p : CodecPlan} {s t : State} (h : abandonCodec p s = .next t) :
    t.mem = s.mem.writeAll (partialWrites s.draws p.cells) ∧ t.stream = s.stream := by
  unfold abandonCodec at h
  split at h
  · cases h
  · cases h
    exact ⟨rfl, rfl⟩

/-- A byte after a subset of the writes is the old one, or one of the writes reaches it. -/
theorem read_partial_eq_or_reached (m : Memory) (draw a : Nat) (cells : List Host.Cell) :
    (m.writeAll (partialWrites draw cells)).read a = m.read a ∨
      (∃ b, (a, b) ∈ cells) ∧ (m.wf = true → (a, (m.writeAll (partialWrites draw cells)).read a) ∈ cells) := by
  by_cases h : ∃ c ∈ partialWrites draw cells, c.1 = a
  · refine .inr ⟨?_, fun hm => (partialWrites_subset (cell_of_read_writeAll hm h)).1⟩
    obtain ⟨⟨_, b⟩, hc, rfl⟩ := h
    exact ⟨b, (partialWrites_subset hc).1⟩
  · exact .inl (Memory.read_writeAll_other fun c hc hca => h ⟨c, hc, hca⟩)

section Abandoned

variable {s t : State}

theorem resetMove_mem (h : resetMove s = .next t) (a : Nat) :
    t.mem.read a = s.mem.read a ∨
      ∃ p, IsRunningCodecPlan s p ∧ (∃ b, (a, b) ∈ p.cells) ∧ (s.mem.wf = true → (a, t.mem.read a) ∈ p.cells) := by
  rcases resetMove_eq s with hreset | ⟨p, _, _, hreset⟩ | ⟨p, hp, hreset⟩
  · cases hreset.symm.trans h
    exact .inl rfl
  · obtain ⟨hmem, _⟩ := abandonFrame_eq_next (hreset.symm.trans h)
    exact .inl (by rw [hmem])
  · obtain ⟨hmem, _⟩ := abandonCodec_eq_next (hreset.symm.trans h)
    rw [hmem]
    exact (read_partial_eq_or_reached s.mem s.draws a p.cells).imp_right fun hcells => ⟨p, hp, hcells⟩

/-- The bytes that an abandoned WRFRAME leaves in the stream, by the rules' own terms. -/
theorem resetMove_stream_of_checks {f : Format} (h : resetMove s = .next t) (hi : runningCommand s = some .wrframe)
    (hchecks : s.FrameChecks f) :
    t.stream = s.stream ++ (s.frameOnStream f).take (drawnPrefix s.draws (s.frameOnStream f).length) := by
  rw [resetMove_of_framePlan hi (wrframePlan_of_checks hchecks)] at h
  obtain ⟨_, hstream⟩ := abandonFrame_eq_next h
  rwa [framePlanOf_bytes] at hstream

theorem resetMove_stream (h : resetMove s = .next t) :
    t.stream = s.stream ∨ runningCommand s = some .wrframe ∧ ∃ f, s.FrameChecks f := by
  rcases resetMove_eq s with hreset | ⟨p, hi, hp, _⟩ | ⟨p, _, hreset⟩
  · cases hreset.symm.trans h
    exact .inl rfl
  · exact .inr ⟨hi, checks_of_wrframePlan hp⟩
  · obtain ⟨_, hstream⟩ := abandonCodec_eq_next (hreset.symm.trans h)
    exact .inl hstream

end Abandoned

/-- Settles O15: the abandoned command is known by its plan, the rest by the draws. -/
theorem resetAbandonsTheCommand : Obligations.ResetAbandonsTheCommand := by
  intro s t es h
  have hreset : resetMove (s.withEvents es) = .next t := h
  have hprefix (f : Format) (hi : s.inFlight = some (encode .wrframe)) (hchecks : s.FrameChecks f) :
      t.stream = s.stream ++ (s.frameOnStream f).take (drawnPrefix s.draws (s.frameOnStream f).length) :=
    resetMove_stream_of_checks (s := s.withEvents es) hreset (runningCommand_eq_some.mpr hi) hchecks
  refine ⟨?_, fun a => ?_, ?_, hprefix⟩
  · obtain ⟨u, rfl⟩ := blockReset_of_resetMove hreset
    rfl
  · refine (resetMove_mem hreset a).imp_right fun ⟨p, hp, hcells⟩ => ⟨p, ?_, hcells⟩
    exact hp.imp (.imp_left runningCommand_eq_some.mp) (.imp_left runningCommand_eq_some.mp)
  · rcases resetMove_stream hreset with hstream | ⟨hi, f, hchecks⟩
    · exact ⟨0, .inl hstream⟩
    · have hflight : s.inFlight = some (encode .wrframe) := runningCommand_eq_some.mp hi
      exact ⟨_, .inr ⟨hflight, f, hchecks, hprefix f hflight hchecks⟩⟩

/-! ### Kept duties (R240) -/

section Duties

variable {s : State}

/-- The windows of the command in flight are off the devices, so those of its plan are. -/
theorem clear_of_running {i : Instr} (h : s.RunningWindowsInMemory) (hi : runningCommand s = some i) :
    ∀ ws, PlannedWindows s i ws → hitsDevice s.params.devices ws = false :=
  fun _ hws => hws.eq_running hi ▸ h

theorem engineTurn_next (h : s.RunningWindowsInMemory) : ∃ t, engineTurn s = .next t := by
  rcases engineTurn_cases s with ⟨_, he⟩ | ⟨_, _, _, _, he⟩ | ⟨w, i, hw, hi, he⟩
  · exact ⟨_, he⟩
  · exact ⟨_, he⟩
  · have hrun : runningCommand s = some i := runningCommand_eq_some.mpr (by rw [hw, eq_encode_of_decode hi])
    rw [he]
    rcases exec_ends (clear_of_running h hrun) with ⟨_, _, hexec⟩ | ⟨_, hexec⟩
    all_goals exact ⟨_, hexec⟩

theorem resetMove_next (h : s.RunningWindowsInMemory) : ∃ t, resetMove s = .next t := by
  rcases resetMove_eq s with hreset | ⟨p, hi, hp, hreset⟩ | ⟨p, ⟨hi, hp⟩ | ⟨hi, hp⟩, hreset⟩
  · exact ⟨_, hreset⟩
  · exact ⟨_, by rw [hreset, abandonFrame, clear_of_running h hi _ (.wrframe hp)]; rfl⟩
  · exact ⟨_, by rw [hreset, abandonCodec, clear_of_running h hi _ (.pack hp)]; rfl⟩
  · exact ⟨_, by rw [hreset, abandonCodec, clear_of_running h hi _ (.unpack hp)]; rfl⟩

theorem regMoves_of_outside {addr bytes : Nat} (v : Word) (hoff : windowOffset s addr = none)
    (hreach : reachesWindow s addr bytes = false) :
    regWriteMove addr bytes v s = .next s ∧ regReadMove addr bytes s = .next s := by
  simp [regWriteMove, regReadMove, hoff, outsideMove, hreach]

theorem windowOffset_eq_some {addr off : Nat} (h : windowOffset s addr = some off) :
    addr = s.params.regBase + off ∧ off < 0x448 := by
  unfold windowOffset at h
  split at h
  · next hin =>
    cases h
    rw [Config.windowBytes] at hin
    omega
  · cases h

theorem regWriteMove_next {addr bytes : Nat} {v : Word} (h : keepsDuties (.regWrite addr bytes v) s) :
    ∃ t, regWriteMove addr bytes v s = .next t := by
  obtain ⟨houtside, hinside⟩ := h
  cases hoff : windowOffset s addr with
  | none => exact ⟨_, (regMoves_of_outside v hoff (houtside hoff)).1⟩
  | some off =>
    obtain ⟨haccess, hbusy⟩ := hinside off hoff
    obtain ⟨rfl, halign⟩ := accessOK_iff.mp haccess
    obtain ⟨rfl, hlt⟩ := windowOffset_eq_some hoff
    cases hreg : regAt off with
    | none => exact ⟨_, (regMoves_of_unlisted v hlt halign hreg).1⟩
    | some r =>
      have hidle : s.inFlight = none := by simpa [hreg, State.busy] using hbusy
      exact ⟨_, regWriteMove_of_idle v hreg hidle⟩

theorem regReadMove_next {addr bytes : Nat} (h : keepsDuties (.regRead addr bytes) s) :
    ∃ t, regReadMove addr bytes s = .next t := by
  obtain ⟨houtside, hinside⟩ := h
  cases hoff : windowOffset s addr with
  | none => exact ⟨_, (regMoves_of_outside 0 hoff (houtside hoff)).2⟩
  | some off =>
    obtain ⟨rfl, halign⟩ := accessOK_iff.mp (hinside off hoff)
    obtain ⟨rfl, hlt⟩ := windowOffset_eq_some hoff
    cases hreg : regAt off with
    | none => exact ⟨_, (regMoves_of_unlisted 0 hlt halign hreg).2⟩
    | some r =>
      by_cases hidle : s.inFlight = none
      · exact ⟨_, regReadMove_of_idle hreg hidle⟩
      · cases hr : readableWhileBusy r with
        | true => exact ⟨_, regReadMove_of_readable hreg hr⟩
        | false => exact ⟨_, regReadMove_of_busy hreg hr hidle⟩

theorem memReadMove_next {a : Nat} (ha : a < 2 ^ s.params.addrW) : ∃ t, memReadMove a s = .next t := by
  cases hw : inWindows (runningDstWindows s) a with
  | true => exact ⟨_, memReadMove_of_window ha hw⟩
  | false => exact ⟨_, memReadMove_of_no_window ha hw⟩

theorem streamReadMove_next (n : Nat) : ∃ t, streamReadMove n s = .next t := by
  unfold streamReadMove
  split
  · exact ⟨_, rfl⟩
  · split
    all_goals exact ⟨_, rfl⟩

theorem move_next {e : Event} (h : keepsDuties e s) : ∃ t, move e s = .next t := by
  cases e with
  | engine => exact engineTurn_next h
  | reset => exact resetMove_next h
  | regWrite addr bytes v => exact regWriteMove_next h
  | regRead addr bytes => exact regReadMove_next h
  | memWrite a b =>
    obtain ⟨ha, hw⟩ := h
    exact ⟨_, memWriteMove_of_no_window b ha hw⟩
  | memRead a => exact memReadMove_next h
  | streamAppend bs => exact ⟨_, (streamMoves_of_no_frame (n := 0) bs h).1⟩
  | streamTruncate n => exact ⟨_, (streamMoves_of_no_frame [] h).2⟩
  | streamRead n => exact streamReadMove_next n
  | portAnswers port => exact ⟨_, rfl⟩
  | sinkAnswers sink => exact ⟨_, rfl⟩

end Duties

/-- Settles O53: a step is a move, and no move that keeps its duties faults. -/
theorem keptDutiesNeverStop : Obligations.KeptDutiesNeverStop := by
  refine fun s => ⟨fun hes h => ?_, fun e es hes h => ?_⟩
  · have hstep : step s = move .engine s := by simp [step, nextMove, hes, move]
    exact hstep ▸ move_next h
  · have hstep : step s = move e (s.withEvents es) := by simp [step, nextMove, hes]
    exact hstep ▸ move_next (s := s.withEvents es) h

end Sys2Proof.Proofs
end
